-- ==== Sys2Proof/Word.lean ====
section
/-! DEFINITION. The two word types of the CORE: a byte of a port or buffer, and a host-visible register. -/

namespace Sys2Proof

/-- A byte is 8 bits (R13). -/
abbrev Byte := BitVec 8

/-- A host-visible register is 32 bits wide (R28). -/
abbrev Word := BitVec 32

end Sys2Proof
end

