-- ==== Sys2Proof/Machine/Bits.lean ====
section
/-! DEFINITION. Bit strings and byte strings: the bit order of R66, the byte orders of R65, and the reading
primitives of R72 and R73 on the list of bits not yet read. -/

namespace Sys2Proof.Machine

/-- The number whose least significant bit comes first (R66). -/
def natOfBits : List Bool → Nat
  | [] => 0
  | b :: bs => b.toNat + 2 * natOfBits bs

/-- The `k` low bits of `v`, least significant first (R70). -/
def natBits : Nat → Nat → List Bool
  | 0, _ => []
  | k + 1, v => (v % 2 == 1) :: natBits k (v / 2)

/-- The `k` low bits of `v`, most significant first: how a Huffman code is laid (R66, R71). -/
def codeBits (k v : Nat) : List Bool := (natBits k v).reverse

/-- The bits of one byte, bit 0 first (R66). -/
def bitsOfByte (b : Byte) : List Bool := natBits 8 b.toNat

/-- The bits of a byte string, in the order in which they are read (R66, R72). -/
def bitsOfBytes : List Byte → List Bool
  | [] => []
  | b :: bs => bitsOfByte b ++ bitsOfBytes bs

/-- `GETBITS(k)` (R72): the first bit read is the least significant; `none` where the data ends. -/
def takeBits : Nat → List Bool → Option (Nat × List Bool)
  | 0, bs => some (0, bs)
  | _ + 1, [] => none
  | k + 1, b :: bs =>
    match takeBits k bs with
    | none => none
    | some (v, r) => some (b.toNat + 2 * v, r)

/-- `GETBYTE()` (R73) at a byte boundary. -/
def takeByte (bs : List Bool) : Option (Byte × List Bool) :=
  match takeBits 8 bs with
  | none => none
  | some (v, r) => some (BitVec.ofNat 8 v, r)

/-- `TAKE(n)` (R73) at a byte boundary. -/
def takeBytes : Nat → List Bool → Option (List Byte × List Bool)
  | 0, bs => some ([], bs)
  | n + 1, bs =>
    match takeByte bs with
    | none => none
    | some (b, r) =>
      match takeBytes n r with
      | none => none
      | some (s, r') => some (b :: s, r')

/-- Whole bytes left in the bits left: `REMAINING()` (R73). -/
def wholeBytes (bs : List Bool) : Nat := bs.length / 8

/-- `LE(s)` (R73): the number whose least significant byte is `s[0]`. -/
def leNat : List Byte → Nat
  | [] => 0
  | b :: bs => b.toNat + 256 * leNat bs

/-- The `n` low bytes of `v`, least significant first. -/
def leBytes : Nat → Nat → List Byte
  | 0, _ => []
  | n + 1, v => BitVec.ofNat 8 v :: leBytes n (v / 256)

/-- `BE(s)` (R73): the number whose most significant byte is `s[0]`. -/
def beNat (s : List Byte) : Nat := leNat s.reverse

/-- The `n` low bytes of `v`, most significant first. -/
def beBytes (n v : Nat) : List Byte := (leBytes n v).reverse

/-- Index of the first entry that satisfies `p`. -/
def firstIdx {α : Type} (p : α → Bool) : List α → Option Nat
  | [] => none
  | a :: as => if p a then some 0 else (firstIdx p as).map (· + 1)

end Sys2Proof.Machine
end

