-- ==== Sys2Proof/Syntax.lean ====
section
/-! DEFINITION. The syntax: failure kinds and details, and one constructor of `Instr` for each row of the element
table of the spec (R5: an element is one unit of a stream that makes a unit of the CORE do one operation). -/

namespace Sys2Proof

/-- Failure kinds (R431). -/
inductive FailKind where
  /-- `TruncatedInput`, code 1. -/
  | truncatedInput
  /-- `CorruptStream`, code 2. -/
  | corruptStream
  /-- `ChecksumMismatch`, code 3. -/
  | checksumMismatch
  /-- `UnsupportedFeature`, code 4. -/
  | unsupportedFeature
  /-- `EngineFailure`, code 5. -/
  | engineFailure
  /-- `ConfigError`, code 6. -/
  | configError
  deriving DecidableEq, Repr

/-- Failure details (R432), under the names of that table. -/
inductive Detail where
  /-- Detail code 0x01. -/
  | eof
  /-- Detail code 0x10. -/
  | zlibBadCm
  /-- Detail code 0x11. -/
  | zlibBadCinfo
  /-- Detail code 0x12. -/
  | zlibBadFcheck
  /-- Detail code 0x18. -/
  | gzipBadMagic
  /-- Detail code 0x19. -/
  | gzipBadCm
  /-- Detail code 0x1A. -/
  | gzipReservedFlg
  /-- Detail code 0x1B. -/
  | gzipBadHcrc
  /-- Detail code 0x20. -/
  | dflBadBtype
  /-- Detail code 0x21. -/
  | dflStoredLen
  /-- Detail code 0x22. -/
  | dflBadCounts
  /-- Detail code 0x23. -/
  | dflClOversub
  /-- Detail code 0x24. -/
  | dflBadRepeat
  /-- Detail code 0x25. -/
  | dflLlOversub
  /-- Detail code 0x26. -/
  | dflDOversub
  /-- Detail code 0x27. -/
  | dflNoEob
  /-- Detail code 0x28. -/
  | hufNoCode
  /-- Detail code 0x29. -/
  | dflBadLlsym
  /-- Detail code 0x2A. -/
  | dflBadDsym
  /-- Detail code 0x2B. -/
  | dflDistTooFar
  /-- Detail code 0x30. -/
  | lz4BadMagic
  /-- Detail code 0x31. -/
  | lz4BadVersion
  /-- Detail code 0x32. -/
  | lz4Reserved
  /-- Detail code 0x33. -/
  | lz4BadBlockmax
  /-- Detail code 0x34. -/
  | lz4BadHc
  /-- Detail code 0x35. -/
  | lz4BlockTooBig
  /-- Detail code 0x36. -/
  | lz4BadOffset
  /-- Detail code 0x37. -/
  | lz4BadSeq
  /-- Detail code 0x38. -/
  | lz4OutTooBig
  /-- Detail code 0x39. -/
  | lz4ContentSize
  /-- Detail code 0x40. -/
  | snpBadVarint
  /-- Detail code 0x41. -/
  | snpBadOffset
  /-- Detail code 0x42. -/
  | snpOverrun
  /-- Detail code 0x4F. -/
  | trailingBytes
  /-- Detail code 0x50. -/
  | zlibAdler
  /-- Detail code 0x51. -/
  | gzipCrc
  /-- Detail code 0x52. -/
  | gzipIsize
  /-- Detail code 0x53. -/
  | lz4BlockCk
  /-- Detail code 0x54. -/
  | lz4ContentCk
  /-- Detail code 0x60. -/
  | zstdCodec
  /-- Detail code 0x61. -/
  | zlibFdict
  /-- Detail code 0x62. -/
  | windowTooLarge
  /-- Detail code 0x63. -/
  | distBeyondWindow
  /-- Detail code 0x64. -/
  | lz4Dictid
  /-- Detail code 0x65. -/
  | lz4Linked
  /-- Detail code 0x66. -/
  | lz4Skippable
  /-- Detail code 0x67. -/
  | snpInputTooLong
  /-- Detail code 0x70. -/
  | cfgCodec
  /-- Detail code 0x71. -/
  | cfgCksel
  /-- Detail code 0x72. -/
  | cfgTree
  /-- Detail code 0x73. -/
  | cfgBlock
  /-- Detail code 0x74. -/
  | cfgEngines
  /-- Detail code 0x75. -/
  | cfgWindow
  /-- Detail code 0x80. -/
  | engineFault
  deriving DecidableEq, Repr

/-- The five fields of `CFG` (R30). -/
inductive CfgField where
  | codec
  | cksel
  | treeMode
  | isLazy
  | iomode
  deriving DecidableEq, Repr

/-- The elements of the CORE: one constructor for each row of opcode_table.json. -/
inductive Instr where
  /-- `NOP`. `CMD` 0 (R94, R380). -/
  | nop
  /-- `START_COMPRESS`. `CMD` 1 (R94, R386). -/
  | startCompress
  /-- `START_DECOMPRESS`. `CMD` 2 (R94, R387). -/
  | startDecompress
  /-- `CANCEL`. `CMD` 3 (R94, R400). -/
  | cancel
  /-- `SOFT_RESET`. `CMD` 4 (R94, R382). -/
  | softReset
  /-- `CMD_RESERVED_5`. `CMD` 5, reserved (R94, R125). -/
  | cmdReserved5
  /-- `CMD_RESERVED_6_7`. `CMD` 6 and 7, reserved: `lo` is bit 0 (R94, R125). -/
  | cmdReserved6to7 (lo : BitVec 1)
  /-- `CMD_RESERVED_8_15`. `CMD` 8 to 15, reserved: `lo` is bits 2:0 (R94, R125). -/
  | cmdReserved8to15 (lo : BitVec 3)
  /-- `CFG.CODEC=DEFLATE`. `CFG.CODEC` field value DEFLATE (R30, R95). -/
  | cfgCodecDeflate
  /-- `CFG.CODEC=ZLIB`. `CFG.CODEC` field value ZLIB (R30, R95). -/
  | cfgCodecZlib
  /-- `CFG.CODEC=GZIP`. `CFG.CODEC` field value GZIP (R30, R95). -/
  | cfgCodecGzip
  /-- `CFG.CODEC=LZ4`. `CFG.CODEC` field value LZ4 (R30, R95). -/
  | cfgCodecLz4
  /-- `CFG.CODEC=SNAPPY`. `CFG.CODEC` field value SNAPPY (R30, R95). -/
  | cfgCodecSnappy
  /-- `CFG.CODEC=ZSTD`. `CFG.CODEC` field value ZSTD (R30, R95). -/
  | cfgCodecZstd
  /-- `CFG.CODEC=RESERVED_6_7`. `CFG.CODEC` 6 and 7, reserved: `lo` is bit 0 (R30, R95, R125). -/
  | cfgCodecReserved (lo : BitVec 1)
  /-- `CFG.CKSEL=NONE`. `CFG.CKSEL` 0 (R30, R95). -/
  | cfgCkselNone
  /-- `CFG.CKSEL=CRC32`. `CFG.CKSEL` 1 (R30, R95). -/
  | cfgCkselCrc32
  /-- `CFG.CKSEL=ADLER32`. `CFG.CKSEL` 2 (R30, R95). -/
  | cfgCkselAdler32
  /-- `CFG.CKSEL=RESERVED_3`. `CFG.CKSEL` 3, reserved (R30, R95, R125). -/
  | cfgCkselReserved3
  /-- `CFG.TREE_MODE=STORED`. `CFG.TREE_MODE` 0 (R30, R95). -/
  | cfgTreeStored
  /-- `CFG.TREE_MODE=FIXED`. `CFG.TREE_MODE` 1 (R30, R95). -/
  | cfgTreeFixed
  /-- `CFG.TREE_MODE=DYNAMIC`. `CFG.TREE_MODE` 2 (R30, R95). -/
  | cfgTreeDynamic
  /-- `CFG.TREE_MODE=RESERVED_3`. `CFG.TREE_MODE` 3, reserved (R30, R95, R125). -/
  | cfgTreeReserved3
  /-- `CFG.LAZY=0`. `CFG.LAZY` 0: greedy matching (R30, R95). -/
  | cfgLazy0
  /-- `CFG.LAZY=1`. `CFG.LAZY` 1: lazy matching (R30, R95). -/
  | cfgLazy1
  /-- `CFG.IOMODE=BUFFER`. `CFG.IOMODE` 0: bounded buffer (R30, R95). -/
  | cfgIomodeBuffer
  /-- `CFG.IOMODE=STREAM`. `CFG.IOMODE` 1: unbounded stream (R30, R95). -/
  | cfgIomodeStream
  /-- `BEAT.DATA`. A beat with `empty` = 0 and `last` = 0 (R61). -/
  | beatData (b : Byte)
  /-- `BEAT.DATA_LAST`. A beat with `empty` = 0 and `last` = 1 (R61). -/
  | beatDataLast (b : Byte)
  /-- `BEAT.END_EMPTY`. The beat with `last` = 1 and `empty` = 1, whose `data` is ignored (R61). -/
  | beatEndEmpty
  /-- `LIT`. Token word `KIND` 0: `Literal(b)` (R92). -/
  | lit (b : Byte)
  /-- `MATCH`. Token word `KIND` 1: `Match(off, len)` (R92). -/
  | matchTok (off : BitVec 17) (len : BitVec 16)
  /-- `EOB`. Token word `KIND` 2: the end of a block's token sequence (R92). -/
  | eob
  /-- `TOKEN_RESERVED`. Token word `KIND` 3, reserved; `x` is bits 37:0 (R92). -/
  | tokenReserved (x : BitVec 38)
  /-- `DFL.BLOCK_STORED`. DEFLATE block header, `BTYPE` 0 (R100). -/
  | dflBlockStored (bfinal : Bool)
  /-- `DFL.BLOCK_FIXED`. DEFLATE block header, `BTYPE` 1 (R100). -/
  | dflBlockFixed (bfinal : Bool)
  /-- `DFL.BLOCK_DYNAMIC`. DEFLATE block header, `BTYPE` 2 (R100). -/
  | dflBlockDynamic (bfinal : Bool)
  /-- `DFL.BLOCK_RESERVED`. DEFLATE block header, `BTYPE` 3 (R100). -/
  | dflBlockReserved (bfinal : Bool)
  /-- `DFL.STORED_BODY`. Stored block body: `LEN`, `NLEN` and the `LEN` data bytes (R101). Where `NLEN` is not the complement of `LEN` no data byte is read (R257). -/
  | dflStoredBody (len : BitVec 16) (nlen : BitVec 16) (data : List Byte)
  /-- `DFL.DYN_HEADER`. Dynamic block header: the three counts and the code-length-code lengths in wire order (R107); the lengths that follow are elements of their own (`CL_SYM`). Where a count is illegal no length is read (R258). -/
  | dflDynHeader (hlit : BitVec 5) (hdist : BitVec 5) (hclen : BitVec 4) (cl : List (BitVec 3))
  /-- `LL.LITERAL`. Literal/length symbol 0 to 255 (R102). -/
  | llLiteral (b : Byte)
  /-- `LL.EOB`. Literal/length symbol 256, end of block (R102). -/
  | llEob
  /-- `LL.LEN_257`. Length symbol 257: base 3, 0 extra bits (R104). -/
  | llLen257
  /-- `LL.LEN_258`. Length symbol 258: base 4, 0 extra bits (R104). -/
  | llLen258
  /-- `LL.LEN_259`. Length symbol 259: base 5, 0 extra bits (R104). -/
  | llLen259
  /-- `LL.LEN_260`. Length symbol 260: base 6, 0 extra bits (R104). -/
  | llLen260
  /-- `LL.LEN_261`. Length symbol 261: base 7, 0 extra bits (R104). -/
  | llLen261
  /-- `LL.LEN_262`. Length symbol 262: base 8, 0 extra bits (R104). -/
  | llLen262
  /-- `LL.LEN_263`. Length symbol 263: base 9, 0 extra bits (R104). -/
  | llLen263
  /-- `LL.LEN_264`. Length symbol 264: base 10, 0 extra bits (R104). -/
  | llLen264
  /-- `LL.LEN_265`. Length symbol 265: base 11, 1 extra bits (R104). -/
  | llLen265 (e : BitVec 1)
  /-- `LL.LEN_266`. Length symbol 266: base 13, 1 extra bits (R104). -/
  | llLen266 (e : BitVec 1)
  /-- `LL.LEN_267`. Length symbol 267: base 15, 1 extra bits (R104). -/
  | llLen267 (e : BitVec 1)
  /-- `LL.LEN_268`. Length symbol 268: base 17, 1 extra bits (R104). -/
  | llLen268 (e : BitVec 1)
  /-- `LL.LEN_269`. Length symbol 269: base 19, 2 extra bits (R104). -/
  | llLen269 (e : BitVec 2)
  /-- `LL.LEN_270`. Length symbol 270: base 23, 2 extra bits (R104). -/
  | llLen270 (e : BitVec 2)
  /-- `LL.LEN_271`. Length symbol 271: base 27, 2 extra bits (R104). -/
  | llLen271 (e : BitVec 2)
  /-- `LL.LEN_272`. Length symbol 272: base 31, 2 extra bits (R104). -/
  | llLen272 (e : BitVec 2)
  /-- `LL.LEN_273`. Length symbol 273: base 35, 3 extra bits (R104). -/
  | llLen273 (e : BitVec 3)
  /-- `LL.LEN_274`. Length symbol 274: base 43, 3 extra bits (R104). -/
  | llLen274 (e : BitVec 3)
  /-- `LL.LEN_275`. Length symbol 275: base 51, 3 extra bits (R104). -/
  | llLen275 (e : BitVec 3)
  /-- `LL.LEN_276`. Length symbol 276: base 59, 3 extra bits (R104). -/
  | llLen276 (e : BitVec 3)
  /-- `LL.LEN_277`. Length symbol 277: base 67, 4 extra bits (R104). -/
  | llLen277 (e : BitVec 4)
  /-- `LL.LEN_278`. Length symbol 278: base 83, 4 extra bits (R104). -/
  | llLen278 (e : BitVec 4)
  /-- `LL.LEN_279`. Length symbol 279: base 99, 4 extra bits (R104). -/
  | llLen279 (e : BitVec 4)
  /-- `LL.LEN_280`. Length symbol 280: base 115, 4 extra bits (R104). -/
  | llLen280 (e : BitVec 4)
  /-- `LL.LEN_281`. Length symbol 281: base 131, 5 extra bits (R104). -/
  | llLen281 (e : BitVec 5)
  /-- `LL.LEN_282`. Length symbol 282: base 163, 5 extra bits (R104). -/
  | llLen282 (e : BitVec 5)
  /-- `LL.LEN_283`. Length symbol 283: base 195, 5 extra bits (R104). -/
  | llLen283 (e : BitVec 5)
  /-- `LL.LEN_284`. Length symbol 284: base 227, 5 extra bits (R104). -/
  | llLen284 (e : BitVec 5)
  /-- `LL.LEN_285`. Length symbol 285: base 258, 0 extra bits (R104). -/
  | llLen285
  /-- `LL.ILLEGAL_286_287`. Literal/length symbols 286 and 287: `lo` is bit 0 (R102, R264). -/
  | llIllegal (lo : BitVec 1)
  /-- `D.DIST_0`. Distance symbol 0: base 1, 0 extra bits (R105). -/
  | dDist0
  /-- `D.DIST_1`. Distance symbol 1: base 2, 0 extra bits (R105). -/
  | dDist1
  /-- `D.DIST_2`. Distance symbol 2: base 3, 0 extra bits (R105). -/
  | dDist2
  /-- `D.DIST_3`. Distance symbol 3: base 4, 0 extra bits (R105). -/
  | dDist3
  /-- `D.DIST_4`. Distance symbol 4: base 5, 1 extra bits (R105). -/
  | dDist4 (e : BitVec 1)
  /-- `D.DIST_5`. Distance symbol 5: base 7, 1 extra bits (R105). -/
  | dDist5 (e : BitVec 1)
  /-- `D.DIST_6`. Distance symbol 6: base 9, 2 extra bits (R105). -/
  | dDist6 (e : BitVec 2)
  /-- `D.DIST_7`. Distance symbol 7: base 13, 2 extra bits (R105). -/
  | dDist7 (e : BitVec 2)
  /-- `D.DIST_8`. Distance symbol 8: base 17, 3 extra bits (R105). -/
  | dDist8 (e : BitVec 3)
  /-- `D.DIST_9`. Distance symbol 9: base 25, 3 extra bits (R105). -/
  | dDist9 (e : BitVec 3)
  /-- `D.DIST_10`. Distance symbol 10: base 33, 4 extra bits (R105). -/
  | dDist10 (e : BitVec 4)
  /-- `D.DIST_11`. Distance symbol 11: base 49, 4 extra bits (R105). -/
  | dDist11 (e : BitVec 4)
  /-- `D.DIST_12`. Distance symbol 12: base 65, 5 extra bits (R105). -/
  | dDist12 (e : BitVec 5)
  /-- `D.DIST_13`. Distance symbol 13: base 97, 5 extra bits (R105). -/
  | dDist13 (e : BitVec 5)
  /-- `D.DIST_14`. Distance symbol 14: base 129, 6 extra bits (R105). -/
  | dDist14 (e : BitVec 6)
  /-- `D.DIST_15`. Distance symbol 15: base 193, 6 extra bits (R105). -/
  | dDist15 (e : BitVec 6)
  /-- `D.DIST_16`. Distance symbol 16: base 257, 7 extra bits (R105). -/
  | dDist16 (e : BitVec 7)
  /-- `D.DIST_17`. Distance symbol 17: base 385, 7 extra bits (R105). -/
  | dDist17 (e : BitVec 7)
  /-- `D.DIST_18`. Distance symbol 18: base 513, 8 extra bits (R105). -/
  | dDist18 (e : BitVec 8)
  /-- `D.DIST_19`. Distance symbol 19: base 769, 8 extra bits (R105). -/
  | dDist19 (e : BitVec 8)
  /-- `D.DIST_20`. Distance symbol 20: base 1025, 9 extra bits (R105). -/
  | dDist20 (e : BitVec 9)
  /-- `D.DIST_21`. Distance symbol 21: base 1537, 9 extra bits (R105). -/
  | dDist21 (e : BitVec 9)
  /-- `D.DIST_22`. Distance symbol 22: base 2049, 10 extra bits (R105). -/
  | dDist22 (e : BitVec 10)
  /-- `D.DIST_23`. Distance symbol 23: base 3073, 10 extra bits (R105). -/
  | dDist23 (e : BitVec 10)
  /-- `D.DIST_24`. Distance symbol 24: base 4097, 11 extra bits (R105). -/
  | dDist24 (e : BitVec 11)
  /-- `D.DIST_25`. Distance symbol 25: base 6145, 11 extra bits (R105). -/
  | dDist25 (e : BitVec 11)
  /-- `D.DIST_26`. Distance symbol 26: base 8193, 12 extra bits (R105). -/
  | dDist26 (e : BitVec 12)
  /-- `D.DIST_27`. Distance symbol 27: base 12289, 12 extra bits (R105). -/
  | dDist27 (e : BitVec 12)
  /-- `D.DIST_28`. Distance symbol 28: base 16385, 13 extra bits (R105). -/
  | dDist28 (e : BitVec 13)
  /-- `D.DIST_29`. Distance symbol 29: base 24577, 13 extra bits (R105). -/
  | dDist29 (e : BitVec 13)
  /-- `D.ILLEGAL_30_31`. Distance symbols 30 and 31: `lo` is bit 0 (R105, R265). -/
  | dIllegal (lo : BitVec 1)
  /-- `CL.LEN_0`. Code-length symbol 0: the code length 0 (R108). -/
  | clLen0
  /-- `CL.LEN_1`. Code-length symbol 1: the code length 1 (R108). -/
  | clLen1
  /-- `CL.LEN_2`. Code-length symbol 2: the code length 2 (R108). -/
  | clLen2
  /-- `CL.LEN_3`. Code-length symbol 3: the code length 3 (R108). -/
  | clLen3
  /-- `CL.LEN_4`. Code-length symbol 4: the code length 4 (R108). -/
  | clLen4
  /-- `CL.LEN_5`. Code-length symbol 5: the code length 5 (R108). -/
  | clLen5
  /-- `CL.LEN_6`. Code-length symbol 6: the code length 6 (R108). -/
  | clLen6
  /-- `CL.LEN_7`. Code-length symbol 7: the code length 7 (R108). -/
  | clLen7
  /-- `CL.LEN_8`. Code-length symbol 8: the code length 8 (R108). -/
  | clLen8
  /-- `CL.LEN_9`. Code-length symbol 9: the code length 9 (R108). -/
  | clLen9
  /-- `CL.LEN_10`. Code-length symbol 10: the code length 10 (R108). -/
  | clLen10
  /-- `CL.LEN_11`. Code-length symbol 11: the code length 11 (R108). -/
  | clLen11
  /-- `CL.LEN_12`. Code-length symbol 12: the code length 12 (R108). -/
  | clLen12
  /-- `CL.LEN_13`. Code-length symbol 13: the code length 13 (R108). -/
  | clLen13
  /-- `CL.LEN_14`. Code-length symbol 14: the code length 14 (R108). -/
  | clLen14
  /-- `CL.LEN_15`. Code-length symbol 15: the code length 15 (R108). -/
  | clLen15
  /-- `CL.REP_PREV`. Code-length symbol 16: copy the previous length `e` + 3 times (R108). -/
  | clRepPrev (e : BitVec 2)
  /-- `CL.REP_ZERO_SHORT`. Code-length symbol 17: `e` + 3 zeros (R108). -/
  | clRepZeroShort (e : BitVec 3)
  /-- `CL.REP_ZERO_LONG`. Code-length symbol 18: `e` + 11 zeros (R108). -/
  | clRepZeroLong (e : BitVec 7)
  /-- `ZLIB.HEADER`. zlib header, `CMF` and `FLG` (R110). -/
  | zlibHeader (cmf : Byte) (flg : Byte)
  /-- `ZLIB.TRAILER`. zlib trailer: the Adler-32 (R111). -/
  | zlibTrailer (v : Word)
  /-- `GZIP.HEADER`. GZIP member header: the 10 fixed bytes (R112) and the optional fields (R113; `name` and `comment` without their terminating zero). Where a fixed byte fails its test no optional field is read (R288). -/
  | gzipHeader (id1 : Byte) (id2 : Byte) (cm : Byte) (flg : Byte) (mtime : Word) (xfl : Byte) (os : Byte) (extra : Option (List Byte)) (name : Option (List Byte)) (comment : Option (List Byte)) (crc16 : Option (BitVec 16))
  /-- `GZIP.TRAILER`. GZIP trailer: `CRC32` and `ISIZE` (R114). `isize` is absent where the CRC already fails: it is then not read (R289). -/
  | gzipTrailer (crc : Word) (isize : Option Word)
  /-- `LZ4.MAGIC`. The LZ4 frame magic 0x184D2204 (R115). -/
  | lz4Magic
  /-- `LZ4.MAGIC_SKIPPABLE`. A skippable-frame magic 0x184D2A50 to 0x184D2A5F: `lo` is bits 3:0 (R115). -/
  | lz4MagicSkippable (lo : BitVec 4)
  /-- `LZ4.DESCRIPTOR`. LZ4 frame descriptor (R115). A part after the first byte that fails its test is not read (R322) and is absent. -/
  | lz4Descriptor (flg : Byte) (bd : Option Byte) (csize : Option (BitVec 64)) (dict : Option Word) (hc : Option Byte)
  /-- `LZ4.BLOCK_COMPRESSED`. LZ4 data block, bit 31 = 0: the size word, the data and the block checksum if the frame has one (R116). Where `size` is above the block maximum nothing after the word is read (R324). -/
  | lz4BlockCompressed (size : BitVec 31) (data : List Byte) (ck : Option Word)
  /-- `LZ4.BLOCK_STORED`. LZ4 data block, bit 31 = 1: stored uncompressed (R116). -/
  | lz4BlockStored (size : BitVec 31) (data : List Byte) (ck : Option Word)
  /-- `LZ4.ENDMARK`. The size word 0x00000000 (R116). -/
  | lz4Endmark
  /-- `LZ4.CONTENT_CHECKSUM`. The content checksum after the end mark (R116). -/
  | lz4ContentChecksum (v : Word)
  /-- `LZ4.SEQUENCE`. LZ4 sequence: literals, then offset and match length (R117, R118). `mat` is absent where the block data ends inside the offset or the match-length escape (R325, R326). -/
  | lz4Sequence (lits : List Byte) (mat : Option (BitVec 16 × Nat))
  /-- `LZ4.LAST_SEQUENCE`. The last sequence of a block: literals only (R117, R329). -/
  | lz4LastSequence (lits : List Byte)
  /-- `SNP.PREAMBLE`. Snappy preamble: the bytes of the varint (R120). -/
  | snpPreamble (bs : List Byte)
  /-- `SNP.LITERAL`. Snappy literal element: tag field `m`, the length bytes if m >= 60, the literal bytes (R121, R122). Where the literal would pass the declared length its bytes are not read (R360). -/
  | snpLiteral (m : BitVec 6) (ext : List Byte) (data : List Byte)
  /-- `SNP.COPY1`. Snappy copy with a 1-byte offset (R121). -/
  | snpCopy1 (len3 : BitVec 3) (off : BitVec 11)
  /-- `SNP.COPY2`. Snappy copy with a 2-byte offset (R121). -/
  | snpCopy2 (len6 : BitVec 6) (off : BitVec 16)
  /-- `SNP.COPY4`. Snappy copy with a 4-byte offset (R121). -/
  | snpCopy4 (len6 : BitVec 6) (off : BitVec 32)
  deriving DecidableEq, Repr

end Sys2Proof
end

