-- ==== Sys2Proof/Machine/Fields.lean ====
section
/-! DEFINITION. The fields of the wire formats and the tests the readers make on them, in the order of their rules;
used by the decoder, the encoder and the meanings alike. -/

namespace Sys2Proof.Machine

/-- The counts test of R258: more than 286 literal/length lengths or more than 30 distance lengths. -/
def dynCountsBad (hlit hdist : BitVec 5) : Bool := 286 < hlit.toNat + 257 || 30 < hdist.toNat + 1

/-- The tests of `ZLIB.RDHDR` in order (R283); `window` is the configured window in bytes. -/
def zlibDefect (cmf flg : Byte) (window : Nat) : Option Detail :=
  if cmf.toNat % 16 ≠ 8 then some .zlibBadCm
  else if 7 < cmf.toNat / 16 then some .zlibBadCinfo
  else if (cmf.toNat * 256 + flg.toNat) % 31 ≠ 0 then some .zlibBadFcheck
  else if flg.getLsbD 5 then some .zlibFdict
  else if window < 2 ^ (cmf.toNat / 16 + 8) then some .windowTooLarge
  else none

/-- The zlib header the CORE writes (R281); `windowKib` is a power of two. -/
def zlibWrite (windowKib : Nat) : List Byte :=
  let cinfo := Nat.log2 (windowKib * 1024) - 8
  let cmf := cinfo * 16 + 8
  let flg := 128
  [BitVec.ofNat 8 cmf, BitVec.ofNat 8 (flg + (31 - (cmf * 256 + flg) % 31) % 31)]

/-- The tests on the fixed part of a GZIP header in order (R288). -/
def gzipFixedDefect (id1 id2 cm flg : Byte) : Option Detail :=
  if id1 ≠ 0x1F#8 ∨ id2 ≠ 0x8B#8 then some .gzipBadMagic
  else if cm ≠ 8#8 then some .gzipBadCm
  else if flg.toNat / 32 ≠ 0 then some .gzipReservedFlg
  else none

/-- The GZIP member header the CORE writes (R286). -/
def gzipWrite : List Byte := [0x1F, 0x8B, 8, 0, 0, 0, 0, 0, 0, 255]

/-- The frame magic of LZ4 (R115). -/
def lz4MagicWord : Word := 0x184D2204#32

/-- The legacy frame magic (R321). -/
def lz4LegacyWord : Word := 0x184C2102#32

/-- The first skippable-frame magic (R115). -/
def lz4SkipWord : Word := 0x184D2A50#32

/-- The tests on the `FLG` byte in order (R322). -/
def lz4FlgDefect (flg : Byte) : Option Detail :=
  if flg.toNat / 64 ≠ 1 then some .lz4BadVersion
  else if flg.getLsbD 1 then some .lz4Reserved
  else none

/-- The tests on the `BD` byte in order (R322). -/
def lz4BdDefect (bd : Byte) : Option Detail :=
  if bd.getLsbD 7 ∨ bd.toNat % 16 ≠ 0 then some .lz4Reserved
  else if bd.toNat / 16 % 8 < 4 then some .lz4BadBlockmax
  else none

/-- Size in bytes of a block maximum size code 4 to 7 (R115, R322). -/
def lz4MaxSize (code : Nat) : Nat := 65536 * 4 ^ (code - 4)

/-- The block maximum size code the CORE writes (R318). -/
def lz4SizeCode (blockKib : Nat) : Nat :=
  if blockKib ≤ 64 then 4 else if blockKib ≤ 256 then 5 else if blockKib ≤ 1024 then 6 else 7

/-- The escape bytes of a length field value `v` counted from 15 (`LZ4.LENEXT`, R118, R314). -/
def lz4Ext (v : Nat) : List Byte :=
  List.replicate ((v - 15) / 255) 255 ++ [BitVec.ofNat 8 ((v - 15) % 255)]

/-- The value of escape bytes, added to 15 (R118, R326): `none` where the data ends before the last of them. -/
def lz4ReadExt : Nat → List Byte → Option (Nat × List Byte)
  | _, [] => none
  | v, b :: bs => if b = 255#8 then lz4ReadExt (v + 255) bs else some (v + b.toNat, bs)

/-- `RDLEN(f)` (R326). -/
def lz4ReadLen (f : Nat) (bs : List Byte) : Option (Nat × List Byte) :=
  if f = 15 then lz4ReadExt 15 bs else some (f, bs)

/-- How many data blocks stand whole at the head of `bs` (R116, R324), at most `fuel`: up to the end mark, a size above
the maximum or the end of the bytes. -/
def lz4DataBlocks (blkmax : Nat) (blockCk : Bool) : Nat → List Byte → Nat
  | 0, _ => 0
  | fuel + 1, bs =>
    let size := leNat (bs.take 4) % 2147483648
    let n := 4 + size + if blockCk then 4 else 0
    if leNat (bs.take 4) = 0 ∨ blkmax < size ∨ bs.length < n then 0
    else lz4DataBlocks blkmax blockCk fuel (bs.drop n) + 1

/-- How many data blocks the bytes of an LZ4 frame hold (R115, R116): none before its header is whole and right up to
`BD`. -/
def lz4FrameBlocks (bs : List Byte) : Nat :=
  let flg := bs.getD 4 0
  let bd := bs.getD 5 0
  let n := 7 + (if flg.getLsbD 3 then 8 else 0) + if flg.getLsbD 0 then 4 else 0
  if bs.length < n ∨ leNat (bs.take 4) ≠ lz4MagicWord.toNat ∨ (lz4FlgDefect flg).isSome ∨ (lz4BdDefect bd).isSome then 0
  else lz4DataBlocks (lz4MaxSize (bd.toNat / 16 % 8)) (flg.getLsbD 4) bs.length (bs.drop n)

/-- The bytes of a varint (R351). -/
def varintLoop : Nat → Nat → List Byte
  | 0, n => [BitVec.ofNat 8 n]
  | fuel + 1, n =>
    if 128 ≤ n then BitVec.ofNat 8 (n % 128 + 128) :: varintLoop fuel (n / 128) else [BitVec.ofNat 8 n]

/-- `SNP.WRPRE` (R351) of a length below 2^32. -/
def varint (n : Nat) : List Byte := varintLoop 4 n

/-- The value of the bytes of a varint (R120, R358). -/
def varintValue : List Byte → Nat
  | [] => 0
  | b :: bs => b.toNat % 128 + 128 * varintValue bs

/-- `SNP_BAD_VARINT` (R358): a fifth byte above 0x0F. -/
def varintBad (bs : List Byte) : Bool := decide (15 < (bs.getD 4 0).toNat)

/-- Does the varint end with byte `b`, the one of index `k`? (R358) -/
def varintStops (k : Nat) (b : Byte) : Bool := k == 4 || decide (b.toNat < 128)

/-- The shape of the bytes `SNP.RDPRE` reads, from index `k` on (R358). -/
def varintShape : Nat → List Byte → Bool
  | _, [] => false
  | k, [b] => varintStops k b
  | k, b :: bs => !varintStops k b && varintShape (k + 1) bs

/-- How many length bytes follow the tag of a Snappy literal (R122). -/
def snpExtLen (m : BitVec 6) : Nat := if m.toNat < 60 then 0 else m.toNat - 59

/-- Number of bytes of a Snappy literal (R122, R360). -/
def snpLitLen (m : BitVec 6) (ext : List Byte) : Nat := (if m.toNat < 60 then m.toNat else leNat ext) + 1

/-- How many length bytes a literal of `m + 1` bytes takes (R353). -/
def snpExtNeed (m : Nat) : Nat :=
  if m < 60 then 0 else if m < 256 then 1 else if m < 65536 then 2 else if m < 16777216 then 3 else 4

/-- `SNP.LITERAL(s)` (R353). -/
def snpLiteralBytes (s : List Byte) : List Byte :=
  let m := s.length - 1
  let k := snpExtNeed m
  BitVec.ofNat 8 ((if k = 0 then m else 59 + k) * 4) :: (leBytes k m ++ s)

/-- `SNP.COPY(o, l)` (R354). -/
def snpCopyBytes (o l : Nat) : List Byte :=
  if 4 ≤ l ∧ l ≤ 11 ∧ o < 2048 then
    [BitVec.ofNat 8 (o / 256 * 32 + (l - 4) * 4 + 1), BitVec.ofNat 8 o]
  else if o < 65536 then BitVec.ofNat 8 ((l - 1) * 4 + 2) :: leBytes 2 o
  else BitVec.ofNat 8 ((l - 1) * 4 + 3) :: leBytes 4 o

/-- The bytes of one LZ4 sequence (R117, R315): literals, then offset and match-length field. -/
def lz4SeqBytes (lits : List Byte) (mat : Option (Nat × Nat)) : List Byte :=
  let n := lits.length
  let m := match mat with
    | some p => p.2
    | none => 0
  BitVec.ofNat 8 (min n 15 * 16 + min m 15) ::
    ((if 15 ≤ n then lz4Ext n else []) ++ lits ++
      match mat with
      | some p => leBytes 2 p.1 ++ (if 15 ≤ p.2 then lz4Ext p.2 else [])
      | none => [])

/-- A token word (R92): 40 bits (log entry 29). -/
def tokenWord (kind off len : Nat) : BitVec 40 := BitVec.ofNat 40 (kind * 2 ^ 38 + off * 2 ^ 16 + len)

end Sys2Proof.Machine
end

