-- ==== Sys2Proof/Config.lean ====
section
/-! DEFINITION. What an implementation fixes (R8) and what the spec leaves open.
The build-time parameters that are data (`NMAX`, `engineFault`, the choice of the `XXH32` plug-in) are the
structure `Params`, which State carries and no step changes, so that a claim about every state holds for every
value of them. What is open and is not data is an opaque constant with no body. -/

namespace Sys2Proof.Config

/-- `WMAX_KIB` (R8): the largest history window built. -/
def wmaxKib : Nat := 64

/-- `BMAX_KIB` (R8): the largest block size built. -/
def bmaxKib : Nat := 4096

/-- Free value (log entry 5): the counters `IN_COUNT` and `BLOCK_COUNT` after a failed or cancelled session (R39, U7).
The machine reduces it modulo the bound the spec sets. -/
opaque freeCount : Nat → Nat

/-- Free value (log entry 6): what a result register reads as while `STATUS.BUSY` = 1 (R481, U9). -/
opaque freeWord : Nat → Word

/-- Any other instance of the `XXH32` plug-in (R8, R312, U16): a total function from byte strings to 32-bit values,
one for each number (log entry 4). -/
opaque xxh32Other : Nat → List Byte → Word

end Sys2Proof.Config

namespace Sys2Proof

/-- Which function the build-time parameter `XXH32` is (R8, R312). -/
inductive XxhPlugin where
  /-- The intended instance, xxHash-32 with seed 0 (93_implementation_defined.md G14). -/
  | intended
  /-- Some other total function, about which nothing is known. -/
  | other (n : Nat)
  deriving DecidableEq, Repr

/-- The build-time parameters of R8 that the model takes as arguments, as plain data. -/
structure Params where
  /-- `NMAX`: number of engine instances built, 1 to 255 (R8, D23). -/
  nmax : Nat
  /-- `engineFault`: the block indices whose engine fails for a reason outside the data (R8, D32). -/
  engineFault : List Nat
  /-- `XXH32`: the opaque checksum plug-in of LZ4 (R8, R312). -/
  xxh : XxhPlugin
  deriving DecidableEq, Repr

end Sys2Proof
end

