-- ==== Sys2Proof/Machine/Tables.lean ====
section
/-! DEFINITION. The symbol tables of 30_encoding.md and the fixed code lengths of R106. -/

namespace Sys2Proof.Machine

/-- `LEN_BASE` of symbols 257 to 285 (R104). -/
def lenBaseTable : List Nat :=
  [3, 4, 5, 6, 7, 8, 9, 10, 11, 13, 15, 17, 19, 23, 27] ++
  [31, 35, 43, 51, 59, 67, 83, 99, 115, 131, 163, 195, 227, 258]

/-- `LEN_EXTRA` of symbols 257 to 285 (R104). -/
def lenExtraTable : List Nat :=
  [0, 0, 0, 0, 0, 0, 0, 0, 1, 1, 1, 1, 2, 2, 2] ++
  [2, 3, 3, 3, 3, 4, 4, 4, 4, 5, 5, 5, 5, 0]

/-- `DIST_BASE` of symbols 0 to 29 (R105). -/
def distBaseTable : List Nat :=
  [1, 2, 3, 4, 5, 7, 9, 13, 17, 25, 33, 49, 65, 97, 129] ++
  [193, 257, 385, 513, 769, 1025, 1537, 2049, 3073, 4097, 6145, 8193, 12289, 16385, 24577]

/-- `DIST_EXTRA` of symbols 0 to 29 (R105). -/
def distExtraTable : List Nat :=
  [0, 0, 0, 0, 1, 1, 2, 2, 3, 3, 4, 4, 5, 5, 6] ++
  [6, 7, 7, 8, 8, 9, 9, 10, 10, 11, 11, 12, 12, 13, 13]

/-- `LEN_BASE[s]`. -/
def lenBase (s : Nat) : Nat := lenBaseTable.getD (s - 257) 0

/-- `LEN_EXTRA[s]`. -/
def lenExtra (s : Nat) : Nat := lenExtraTable.getD (s - 257) 0

/-- `DIST_BASE[s]`. -/
def distBase (s : Nat) : Nat := distBaseTable.getD s 0

/-- `DIST_EXTRA[s]`. -/
def distExtra (s : Nat) : Nat := distExtraTable.getD s 0

/-- Extra bits of a code-length symbol (R108). -/
def clExtra (s : Nat) : Nat := if s = 16 then 2 else if s = 17 then 3 else if s = 18 then 7 else 0

/-- `CL_ORDER` (R107, R248). -/
def clOrder : List Nat := [16, 17, 18, 0, 8, 7, 9, 6, 10, 5, 11, 4, 12, 3, 13, 2, 14, 1, 15]

/-- The fixed literal/length code lengths, 288 entries (R106, R211). -/
def fixedLenLL : List Nat :=
  List.replicate 144 8 ++ List.replicate 112 9 ++ List.replicate 24 7 ++ List.replicate 8 8

/-- The fixed distance code lengths, 32 entries (R106, R211). -/
def fixedLenD : List Nat := List.replicate 32 5

/-- The fixed literal/length codes as R106 lists them. -/
def fixedCodesLL : List Nat :=
  (List.range 144).map (· + 0x30) ++ (List.range 112).map (· + 0x190) ++
  List.range 24 ++ (List.range 8).map (· + 0xC0)

/-- The fixed distance codes as R106 lists them: the 5-bit number of the symbol. -/
def fixedCodesD : List Nat := List.range 32

end Sys2Proof.Machine
end

