-- ==== Sys2Proof/Machine/State.lean ====
section
/-! DEFINITION. The state of the CORE (10_state.md) as plain data, the reasons a step can stop, and the state after
reset (R54). Fields marked "model's own" are not the spec's (INVENTORY.md, State). -/

namespace Sys2Proof.Machine

/-- A byte memory (`BLKBUF`, `OUTWIN`): addresses strictly rising; an address that is not listed holds no value, and
reading it is a fault (R54, U6). -/
abbrev Memory := List Host.Cell

/-- The canonical form: addresses strictly rising (no listed cell can equal an unlisted one, which has no value). -/
def Memory.wf : Memory → Bool
  | [] => true
  | [_] => true
  | c :: d :: m => decide (c.1 < d.1) && Memory.wf (d :: m)

/-- Direction of a session (R26). -/
inductive Dir where
  | compress
  | decompress
  deriving DecidableEq, Repr

/-- `PHASE` (R26). -/
inductive Phase where
  | idle
  | header
  | body
  | trailer
  | done
  | failed
  | cancelled
  deriving DecidableEq, Repr

/-- `ENG[e].ST` (R50). -/
inductive EngSt where
  | idle
  | busy
  | done
  | failed
  deriving DecidableEq, Repr

/-- Which part of `ENGINE.RUN` an engine comes to next (model's own; R391, R241, R245). -/
inductive Job where
  /-- The unit was just handed over. -/
  | start
  /-- The tokenizer loop `LZ.BLOCK` (R178). -/
  | tokenise
  /-- The first read of `TOKBUF`: statistics (R245). -/
  | count
  /-- The read of `TOKBUF` that packs (R244, R315, R355). -/
  | pack
  /-- The sequences of an LZ4 block (R325). -/
  | unpack
  deriving DecidableEq, Repr

/-- Which element the sequencer reads next in a decompression (model's own; R387, R255, R324, R359). -/
inductive Want where
  /-- No element: no decompression runs. -/
  | nothing
  | zlibHdr
  | gzipHdr
  | lz4Magic
  | lz4Desc
  | snpPre
  | dflHdr
  | dflStored
  | dflDyn
  | clSym
  | llSym
  | dSym
  | lz4Blk
  /-- The end mark was read; the blocks before it are still to be collected. -/
  | lz4Drain
  | snpTag
  | zlibTrl
  | gzipTrl
  | lz4Content
  /-- The trailing-bytes test (R290). -/
  | trailing
  deriving DecidableEq, Repr

/-- A beat of a port (R61). -/
structure Beat where
  data : Byte
  last : Bool
  empty : Bool
  deriving DecidableEq, Repr

/-- The host-visible registers (R28 to R39); `STATUS` is composed from `phase`, `dir` and `errcode`. -/
structure Regs where
  cfg : Word
  blockKib : Word
  windowKib : Word
  engines : Word
  errinfo : Word
  errblock : Word
  cksum : Word
  inCount : BitVec 64
  outCount : BitVec 64
  blockCount : Word
  deriving DecidableEq, Repr

/-- `SCFG` (R40). -/
structure Scfg where
  cfg : Word
  blockKib : Word
  windowKib : Word
  engines : Word
  deriving DecidableEq, Repr

/-- The working registers of an unpacker (R22) with its `OUTWIN` (R47). -/
structure Unpacker where
  cur : BitVec 64
  bitpos : BitVec 3
  bfinal : Bool
  btype : BitVec 2
  hlit : BitVec 5
  hdist : BitVec 5
  hclen : BitVec 4
  produced : BitVec 64
  declared : BitVec 64
  blkmax : BitVec 23
  outwin : Memory
  deriving DecidableEq, Repr

/-- The length and code tables (R44, R45). -/
structure Tables where
  lenLL : List (BitVec 4)
  lenD : List (BitVec 4)
  lenCL : List (BitVec 3)
  codeLL : List (BitVec 15)
  codeD : List (BitVec 15)
  codeCL : List (BitVec 7)
  deriving DecidableEq, Repr

/-- A scheduling unit (R48). -/
structure SchedUnit where
  index : Word
  start : BitVec 64
  len : BitVec 23
  isFinal : Bool
  deriving DecidableEq, Repr

/-- The result of a unit (R48). -/
structure EngResult where
  bytes : List Byte
  usize : BitVec 23
  csize : Word
  index : Word
  isFinal : Bool
  errcode : BitVec 4
  detail : BitVec 8
  deriving DecidableEq, Repr

/-- One engine (R21, R42 to R48, R50, R51). -/
structure Engine where
  st : EngSt
  pos : BitVec 23
  blklen : BitVec 23
  moff : BitVec 17
  mlen : BitVec 16
  litrun : BitVec 23
  bitacc : BitVec 8
  bitcnt : BitVec 3
  outlen : Word
  blkbuf : Memory
  tokbuf : List (BitVec 40)
  /-- The lookup index (R51): the positions recorded so far; nothing reads it. -/
  lookup : List Nat
  freqLL : List Word
  freqD : List Word
  freqCL : List Word
  tabs : Tables
  unp : Unpacker
  unit : SchedUnit
  result : EngResult
  /-- Model's own: which part of `ENGINE.RUN` comes next. -/
  job : Job
  /-- Model's own: index in `TOKBUF` of the next token the packer reads. -/
  tokRd : Nat
  /-- Model's own: the position the tokens read so far have covered (p of R315). -/
  cov : BitVec 23
  /-- Model's own: bit 31 of the size word of the LZ4 data block held (R324). -/
  blkStored : Bool
  /-- Model's own: the block checksum of the LZ4 data block held (R324). -/
  blkCk : Option Word
  deriving DecidableEq, Repr

/-- A complete block that waits in the distributor for its engine (model's own; R388, R398, U19). -/
structure Waiting where
  bytes : List Byte
  start : BitVec 64
  isFinal : Bool
  stored : Bool
  ck : Option Word
  deriving DecidableEq, Repr

/-- The agents of the CORE that take steps of their own (R6); the distributor is `intake` and `dispatcher`. -/
inductive Agent where
  | collector
  | engine (e : Nat)
  | dispatcher
  | sequencer
  | intake
  deriving DecidableEq, Repr

/-- What the host can do (R60, R470). -/
inductive HostOp where
  /-- A register write of `width` bits at a byte offset (R29). -/
  | write (width : Nat) (off : Nat) (v : Word)
  /-- A register read of `width` bits at a byte offset (R29). -/
  | read (width : Nat) (off : Nat)
  /-- A beat given to `IN` (R61). -/
  | send (b : Beat)
  /-- A beat taken from `OUT` (R61). -/
  | take
  /-- The hardware reset (R470). -/
  | reset
  deriving DecidableEq, Repr

/-- Who moves (log entry 1). -/
inductive Turn where
  /-- Any agent of the CORE that can: the first in a fixed order. -/
  | core
  | agent (a : Agent)
  | host (op : HostOp)
  /-- One field of a `CFG` write (R95, R68). -/
  | cfgField (f : CfgField) (v : Word)
  deriving DecidableEq, Repr

/-- What a host read returned. -/
inductive ReadData where
  | nothing
  | reg (v : Word)
  | beat (b : Beat)
  deriving DecidableEq, Repr

/-- The state of the CORE (R20). -/
structure State where
  params : Params
  regs : Regs
  scfg : Scfg
  phase : Phase
  dir : Dir
  errcode : BitVec 4
  crc : Word
  adler : Word
  nextDispatch : Word
  nextCollect : Word
  incnt : BitVec 64
  outcnt : BitVec 64
  /-- `STAGE` (R49, R396). In stream mode it holds the last byte produced, so that the last beat can carry `last` = 1
  (log entry 16). -/
  stage : List Byte
  unp : Unpacker
  /-- The tables of the session's own unpacker (R44, R45), apart from those of every engine (log entry 30). -/
  tabs : Tables
  engines : List Engine
  inp : List Beat
  outp : List Beat
  /-- Model's own: the bytes the decompression has taken from `IN` (`IN` of R72). -/
  strm : List Byte
  /-- Model's own: the session has taken the `last` beat of its input stream. -/
  inEnded : Bool
  /-- Model's own: input streams still to be discarded (R397). -/
  discard : Nat
  /-- Model's own: the bytes of the block being cut (R388). -/
  asm : List Byte
  /-- Model's own: complete blocks not yet handed out. -/
  blockQ : List Waiting
  /-- Model's own: index of the next block cut from the input, or read from an LZ4 frame. -/
  nextCut : Word
  want : Want
  /-- Model's own: `l` of R263 between a length symbol and its distance symbol. -/
  rdLen : Nat
  /-- Model's own: `Q` of R260. -/
  rdQ : List (BitVec 4)
  /-- Model's own: `flg` of R322. -/
  lz4flg : Byte
  /-- Model's own: the bytes an LZ4 decompression has output (R330). -/
  content : List Byte
  /-- Model's own: a failure of the LZ4 reader that waits for the blocks before it (R399). -/
  deferred : Option Detail
  /-- Model's own: a `CANCEL` written and not yet in effect (R400). -/
  cancelReq : Bool
  /-- Model's own: the engine whose token or sequence is executed. -/
  actor : Nat
  /-- Model's own: who moves next (log entry 1). -/
  agenda : List Turn
  /-- Model's own: what the last host read returned. -/
  readData : ReadData
  /-- Model's own: index of the next free value (log entries 5 and 6). -/
  freeIdx : Nat
  deriving DecidableEq, Repr

/-- Stops of the model itself. -/
inductive Fault where
  /-- A read of an item that nothing has written (R54, U6: "the model treats a read of an unspecified item before its first write as a fault"): raised by the reads of `BLKBUF`, `OUTWIN` and `TOKBUF`. Safe. -/
  | unwrittenRead
  /-- An element for an engine number that was not built: raised by the token and LZ4-sequence elements. Safe. -/
  | noEngine
  /-- A token while `SCFG` names no codec that consumes tokens (R182): raised by the token elements. Safe. -/
  | noCodec
  /-- A match token outside the invariants of R92 given to a packer; no producer emits one: raised by `MATCH`. Safe. -/
  | tokenRange
  deriving DecidableEq, Repr

/-- Refusals. -/
inductive Refusal where
  /-- No meaning yet for the element. Safe. -/
  | notModelled (mnemonic : String)
  /-- A token of reserved kind: "the model refuses" (R92, R125). Raised by `TOKEN_RESERVED`. Safe. -/
  | reservedToken
  /-- A register access that is not 32 bits wide or not aligned: "the model refuses it" (R29, U2). Raised by the register window. Safe. -/
  | badRegisterAccess
  /-- More than 2^32 - 1 scheduler blocks: "the model refuses such a run" (R486, U8). Raised where a block is cut. Safe. -/
  | tooManyBlocks
  /-- A token word or beat that is no element (R92, R61): raised by the fetch. Safe. -/
  | illegalWord
  deriving DecidableEq, Repr

/-- The unpacker registers after reset (R54). -/
def Unpacker.reset : Unpacker :=
  { cur := 0, bitpos := 0, bfinal := false, btype := 0, hlit := 0, hdist := 0, hclen := 0,
    produced := 0, declared := 0, blkmax := 0, outwin := [] }

/-- Tables after reset: unspecified (R54), all 0 (log entry 3). -/
def Tables.reset : Tables :=
  { lenLL := List.replicate 288 0, lenD := List.replicate 32 0, lenCL := List.replicate 19 0,
    codeLL := List.replicate 288 0, codeD := List.replicate 32 0, codeCL := List.replicate 19 0 }

/-- An engine after reset (R54; log entry 3). -/
def Engine.reset : Engine :=
  { st := .idle, pos := 0, blklen := 0, moff := 0, mlen := 0, litrun := 0, bitacc := 0, bitcnt := 0, outlen := 0,
    blkbuf := [], tokbuf := [], lookup := [],
    freqLL := List.replicate 286 0, freqD := List.replicate 30 0, freqCL := List.replicate 19 0,
    tabs := Tables.reset, unp := Unpacker.reset,
    unit := { index := 0, start := 0, len := 0, isFinal := false },
    result := { bytes := [], usize := 0, csize := 0, index := 0, isFinal := false, errcode := 0, detail := 0 },
    job := .start, tokRd := 0, cov := 0, blkStored := false, blkCk := none }

/-- The registers after reset (R28, R54). -/
def Regs.reset : Regs :=
  { cfg := 0x00000200, blockKib := 32, windowKib := 32, engines := 1, errinfo := 0, errblock := 0xFFFFFFFF,
    cksum := 0, inCount := 0, outCount := 0, blockCount := 0 }

/-- The reset state of an instance with given build-time parameters (R54, R470). -/
def State.resetWith (p : Params) : State :=
  { params := p, regs := Regs.reset,
    scfg := { cfg := 0x00000200, blockKib := 32, windowKib := 32, engines := 1 },
    phase := .idle, dir := .compress, errcode := 0, crc := 0xFFFFFFFF, adler := 1,
    nextDispatch := 0, nextCollect := 0, incnt := 0, outcnt := 0, stage := [],
    unp := Unpacker.reset, tabs := Tables.reset, engines := List.replicate p.nmax Engine.reset,
    inp := [], outp := [], strm := [], inEnded := false, discard := 0, asm := [], blockQ := [], nextCut := 0,
    want := .nothing, rdLen := 0, rdQ := [], lz4flg := 0, content := [], deferred := none, cancelReq := false,
    actor := 0, agenda := [], readData := .nothing, freeIdx := 0 }

/-- The machine right after reset: 8 engines (VL's own example, R8), `engineFault` false everywhere and the intended
plug-in (log entry 7). -/
def State.reset : State := State.resetWith { nmax := 8, engineFault := [], xxh := .intended }

end Sys2Proof.Machine
end

