-- ==== Sys2Proof/Machine/Flags.lean ====
section
/-! DEFINITION. The flags and codes: failure kinds and details (R431, R432), `PHASE` (R26), `STATUS` (R35) and
`ERRINFO` (R36). -/

namespace Sys2Proof.Machine

/-- The code of a failure kind (R431). -/
def kindCode (k : FailKind) : BitVec 4 :=
  match k with
  | .truncatedInput => 1
  | .corruptStream => 2
  | .checksumMismatch => 3
  | .unsupportedFeature => 4
  | .engineFailure => 5
  | .configError => 6

/-- The code of a detail (R432). -/
def detailCode (d : Detail) : BitVec 8 :=
  match d with
  | .eof => 0x01
  | .zlibBadCm => 0x10
  | .zlibBadCinfo => 0x11
  | .zlibBadFcheck => 0x12
  | .gzipBadMagic => 0x18
  | .gzipBadCm => 0x19
  | .gzipReservedFlg => 0x1A
  | .gzipBadHcrc => 0x1B
  | .dflBadBtype => 0x20
  | .dflStoredLen => 0x21
  | .dflBadCounts => 0x22
  | .dflClOversub => 0x23
  | .dflBadRepeat => 0x24
  | .dflLlOversub => 0x25
  | .dflDOversub => 0x26
  | .dflNoEob => 0x27
  | .hufNoCode => 0x28
  | .dflBadLlsym => 0x29
  | .dflBadDsym => 0x2A
  | .dflDistTooFar => 0x2B
  | .lz4BadMagic => 0x30
  | .lz4BadVersion => 0x31
  | .lz4Reserved => 0x32
  | .lz4BadBlockmax => 0x33
  | .lz4BadHc => 0x34
  | .lz4BlockTooBig => 0x35
  | .lz4BadOffset => 0x36
  | .lz4BadSeq => 0x37
  | .lz4OutTooBig => 0x38
  | .lz4ContentSize => 0x39
  | .snpBadVarint => 0x40
  | .snpBadOffset => 0x41
  | .snpOverrun => 0x42
  | .trailingBytes => 0x4F
  | .zlibAdler => 0x50
  | .gzipCrc => 0x51
  | .gzipIsize => 0x52
  | .lz4BlockCk => 0x53
  | .lz4ContentCk => 0x54
  | .zstdCodec => 0x60
  | .zlibFdict => 0x61
  | .windowTooLarge => 0x62
  | .distBeyondWindow => 0x63
  | .lz4Dictid => 0x64
  | .lz4Linked => 0x65
  | .lz4Skippable => 0x66
  | .snpInputTooLong => 0x67
  | .cfgCodec => 0x70
  | .cfgCksel => 0x71
  | .cfgTree => 0x72
  | .cfgBlock => 0x73
  | .cfgEngines => 0x74
  | .cfgWindow => 0x75
  | .engineFault => 0x80

/-- The kind of a detail (R432). -/
def detailKind (d : Detail) : FailKind :=
  match d with
  | .eof => .truncatedInput
  | .zlibBadCm => .corruptStream
  | .zlibBadCinfo => .corruptStream
  | .zlibBadFcheck => .corruptStream
  | .gzipBadMagic => .corruptStream
  | .gzipBadCm => .corruptStream
  | .gzipReservedFlg => .corruptStream
  | .gzipBadHcrc => .corruptStream
  | .dflBadBtype => .corruptStream
  | .dflStoredLen => .corruptStream
  | .dflBadCounts => .corruptStream
  | .dflClOversub => .corruptStream
  | .dflBadRepeat => .corruptStream
  | .dflLlOversub => .corruptStream
  | .dflDOversub => .corruptStream
  | .dflNoEob => .corruptStream
  | .hufNoCode => .corruptStream
  | .dflBadLlsym => .corruptStream
  | .dflBadDsym => .corruptStream
  | .dflDistTooFar => .corruptStream
  | .lz4BadMagic => .corruptStream
  | .lz4BadVersion => .corruptStream
  | .lz4Reserved => .corruptStream
  | .lz4BadBlockmax => .corruptStream
  | .lz4BadHc => .corruptStream
  | .lz4BlockTooBig => .corruptStream
  | .lz4BadOffset => .corruptStream
  | .lz4BadSeq => .corruptStream
  | .lz4OutTooBig => .corruptStream
  | .lz4ContentSize => .corruptStream
  | .snpBadVarint => .corruptStream
  | .snpBadOffset => .corruptStream
  | .snpOverrun => .corruptStream
  | .trailingBytes => .corruptStream
  | .zlibAdler => .checksumMismatch
  | .gzipCrc => .checksumMismatch
  | .gzipIsize => .checksumMismatch
  | .lz4BlockCk => .checksumMismatch
  | .lz4ContentCk => .checksumMismatch
  | .zstdCodec => .unsupportedFeature
  | .zlibFdict => .unsupportedFeature
  | .windowTooLarge => .unsupportedFeature
  | .distBeyondWindow => .unsupportedFeature
  | .lz4Dictid => .unsupportedFeature
  | .lz4Linked => .unsupportedFeature
  | .lz4Skippable => .unsupportedFeature
  | .snpInputTooLong => .unsupportedFeature
  | .cfgCodec => .configError
  | .cfgCksel => .configError
  | .cfgTree => .configError
  | .cfgBlock => .configError
  | .cfgEngines => .configError
  | .cfgWindow => .configError
  | .engineFault => .engineFailure

/-- The number of a phase (R26). -/
def phaseCode (p : Phase) : BitVec 3 :=
  match p with
  | .idle => 0
  | .header => 1
  | .body => 2
  | .trailer => 3
  | .done => 4
  | .failed => 5
  | .cancelled => 6

/-- `STATUS.BUSY` (R35): a session is running. -/
def phaseBusy (p : Phase) : Bool :=
  match p with
  | .header => true
  | .body => true
  | .trailer => true
  | .idle => false
  | .done => false
  | .failed => false
  | .cancelled => false

/-- Is a session running? (R35) -/
def busy (s : State) : Bool := phaseBusy s.phase

/-- A bit as a number. -/
def bit (b : Bool) : Nat := if b then 1 else 0

/-- `STATUS.DIR` (R26, R35). -/
def dirBit (d : Dir) : Nat :=
  match d with
  | .compress => 0
  | .decompress => 1

/-- `STATUS` (R35). -/
def statusWord (s : State) : Word :=
  BitVec.ofNat 32
    (bit (busy s) + 2 * bit (s.phase == .done) + 4 * bit (s.phase == .failed) + 8 * bit (s.phase == .cancelled) +
      16 * dirBit s.dir + 256 * s.errcode.toNat + 65536 * (phaseCode s.phase).toNat)

/-- `ERRINFO` (R36): `DETAIL` in bits 7:0, `ENGINE` in bits 15:8. -/
def errinfoWord (detail : BitVec 8) (engine : Nat) : Word :=
  BitVec.ofNat 32 (detail.toNat + 256 * (engine % 256))

end Sys2Proof.Machine
end

