-- ==== Sys2Proof/Machine/Checksum.lean ====
section
/-! DEFINITION. The Checksum Engine (40_checksum.md) and the LZ4 checksum plug-in (R312, G14), as functions of values. -/

namespace Sys2Proof.Machine

/-- The initial raw CRC register (R151). -/
def crcInit : Word := 0xFFFFFFFF

/-- One shift step of R152. -/
def crcShift (c : Word) : Word :=
  if c.getLsbD 0 then (c >>> 1) ^^^ 0xEDB88320#32 else c >>> 1

/-- `k` shift steps. -/
def crcShifts : Nat → Word → Word
  | 0, c => c
  | k + 1, c => crcShifts k (crcShift c)

/-- `CRC32.BYTE(c, b)` (R152). -/
def crcByte (c : Word) (b : Byte) : Word := crcShifts 8 (c ^^^ b.zeroExtend 32)

/-- `CRC32.UPD(s)` (R153). -/
def crcUpd (c : Word) : List Byte → Word
  | [] => c
  | b :: s => crcUpd (crcByte c b) s

/-- `CRC32.FIN` (R154). -/
def crcFin (c : Word) : Word := c ^^^ 0xFFFFFFFF#32

/-- The finalized CRC32 of a byte string (R154). -/
def crc32 (s : List Byte) : Word := crcFin (crcUpd crcInit s)

/-- `CRC32.BYTE(v, 0)` n times (R155). -/
def crcZeros : Nat → Word → Word
  | 0, v => v
  | n + 1, v => crcZeros n (crcByte v 0)

/-- `CRC32.COMB(c1, c2, len2)` (R155). -/
def crcComb (c1 c2 : Word) (len2 : Nat) : Word := crcZeros len2 c1 ^^^ c2

/-- The initial Adler-32 register: A = 1, B = 0 (R157). -/
def adlerInit : Word := 1

/-- `ADLER.A` (R41). -/
def adlerA (v : Word) : Nat := v.toNat % 65536

/-- `ADLER.B` (R41). -/
def adlerB (v : Word) : Nat := v.toNat / 65536

/-- The two halves as one register (R41, R160). -/
def adlerPack (a b : Nat) : Word := BitVec.ofNat 32 (b * 65536 + a)

/-- `ADLER32.BYTE((a, b), x)` (R158). -/
def adlerByte (v : Word) (x : Byte) : Word :=
  let a := (adlerA v + x.toNat) % 65521
  adlerPack a ((adlerB v + a) % 65521)

/-- `ADLER32.UPD(s)` (R159). -/
def adlerUpd (v : Word) : List Byte → Word
  | [] => v
  | x :: s => adlerUpd (adlerByte v x) s

/-- `ADLER32.FIN` (R160): the two halves as they stand. -/
def adlerFin (v : Word) : Word := v

/-- The finalized Adler-32 of a byte string (R160). -/
def adler32 (s : List Byte) : Word := adlerFin (adlerUpd adlerInit s)

/-- `ADLER32.COMB(v1, v2, len2)` (R161). -/
def adlerComb (v1 v2 : Word) (len2 : Nat) : Word :=
  adlerPack ((adlerA v1 + adlerA v2 + 65521 - 1) % 65521)
    ((adlerB v1 + adlerB v2 + (len2 % 65521) * ((adlerA v1 + 65521 - 1) % 65521)) % 65521)

/-- The constants of G14. -/
def xxhP1 : Word := 2654435761
def xxhP2 : Word := 2246822519
def xxhP3 : Word := 3266489917
def xxhP4 : Word := 668265263
def xxhP5 : Word := 374761393

/-- `LE4` of the first four bytes of `s` (G14). -/
def le4 (s : List Byte) : Word := BitVec.ofNat 32 (leNat (s.take 4))

/-- One lane of the 16-byte loop of G14. -/
def xxhLane (v x : Word) : Word := (v + x * xxhP2).rotateLeft 13 * xxhP1

/-- The four lanes of G14. -/
structure XxhAcc where
  v1 : Word
  v2 : Word
  v3 : Word
  v4 : Word
  deriving DecidableEq, Repr

/-- The start values of the lanes (G14). -/
def xxhAccInit : XxhAcc := { v1 := xxhP1 + xxhP2, v2 := xxhP2, v3 := 0, v4 := 0 - xxhP1 }

/-- `n` passes of the 16-byte loop of G14. -/
def xxhStripes : Nat → XxhAcc → List Byte → XxhAcc
  | 0, a, _ => a
  | n + 1, a, s =>
    xxhStripes n
      { v1 := xxhLane a.v1 (le4 s), v2 := xxhLane a.v2 (le4 (s.drop 4)),
        v3 := xxhLane a.v3 (le4 (s.drop 8)), v4 := xxhLane a.v4 (le4 (s.drop 12)) }
      (s.drop 16)

/-- `n` passes of the 4-byte loop of G14. -/
def xxhQuads : Nat → Word → List Byte → Word
  | 0, h, _ => h
  | n + 1, h, s => xxhQuads n ((h + le4 s * xxhP3).rotateLeft 17 * xxhP4) (s.drop 4)

/-- The last loop of G14: the bytes left. -/
def xxhTail (h : Word) : List Byte → Word
  | [] => h
  | b :: s => xxhTail ((h + b.zeroExtend 32 * xxhP5).rotateLeft 11 * xxhP1) s

/-- The last mixing of G14. -/
def xxhMix (h : Word) : Word :=
  let h := (h ^^^ (h >>> 15)) * xxhP2
  let h := (h ^^^ (h >>> 13)) * xxhP3
  h ^^^ (h >>> 16)

/-- xxHash-32 with seed 0, the intended instance of the plug-in (G14). -/
def xxh32Intended (s : List Byte) : Word :=
  let n := s.length
  let a := xxhStripes (n / 16) xxhAccInit s
  let h0 := if 16 ≤ n then a.v1.rotateLeft 1 + a.v2.rotateLeft 7 + a.v3.rotateLeft 12 + a.v4.rotateLeft 18 else xxhP5
  let t := s.drop (n / 16 * 16)
  let h1 := xxhQuads (t.length / 4) (h0 + BitVec.ofNat 32 n) t
  xxhMix (xxhTail h1 (t.drop (t.length / 4 * 4)))

/-- `XXH32` (R8, R312): the plug-in the instance was built with. -/
def xxh32 (p : XxhPlugin) (s : List Byte) : Word :=
  match p with
  | .intended => xxh32Intended s
  | .other n => Config.xxh32Other n s

end Sys2Proof.Machine
end

