-- ==== Sys2Proof/Machine/Huffman.lean ====
section
/-! DEFINITION. The Huffman Coder (42_huffman.md) on lists of numbers: tree construction, canonical codes,
the check of a length table and the symbol decoder. -/

namespace Sys2Proof.Machine

/-- A tree in tables (R201): code length and code of each symbol; length 0 means no code. -/
structure Tree where
  lens : List Nat
  codes : List Nat
  deriving DecidableEq, Repr

/-- Kraft sum with respect to the limit `l` (R201). -/
def kraft (l : Nat) : List Nat → Nat
  | [] => 0
  | n :: ns => (if n = 0 then 0 else 2 ^ (l - n)) + kraft l ns

/-- `HUF.CHECK` (R213): is the table over-subscribed? -/
def overSubscribed (l : Nat) (lens : List Nat) : Bool := decide (2 ^ l < kraft l lens)

/-- The largest length of a table (R208, R214). -/
def maxLen (lens : List Nat) : Nat := lens.foldl max 0

/-- Number of symbols of length `b`; `cnt[0]` is 0 (R208). -/
def lenCount (lens : List Nat) (b : Nat) : Nat := if b = 0 then 0 else lens.count b

/-- First code of length `b` (R208): `code <- (code + cnt[b-1]) << 1`, from 0. -/
def firstCode (lens : List Nat) : Nat → Nat
  | 0 => 0
  | b + 1 => 2 * (firstCode lens b + lenCount lens b)

/-- The codes of the symbols in order, `seen` the lengths of the symbols before (R208). -/
def assignFrom (lens : List Nat) (seen : List Nat) : List Nat → List Nat
  | [] => []
  | n :: ns =>
    (if n = 0 then 0 else firstCode lens n + seen.count n) :: assignFrom lens (n :: seen) ns

/-- `HUF.ASSIGN` (R208). A symbol without a code gets 0 (log entry 33). -/
def assignCodes (lens : List Nat) : List Nat := assignFrom lens [] lens

/-- The tree of a length table. -/
def treeOf (lens : List Nat) : Tree := { lens := lens, codes := assignCodes lens }

/-- The fixed literal/length tree (R211) with the codes R106 lists; that they are those of `HUF.ASSIGN` is a law. -/
def fixedTreeLL : Tree := { lens := fixedLenLL, codes := fixedCodesLL }

/-- The fixed distance tree (R211) with the codes R106 lists. -/
def fixedTreeD : Tree := { lens := fixedLenD, codes := fixedCodesD }

/-- `SYM(l, c)` (R214): the symbol of length `l` and code `c`. -/
def Tree.sym (t : Tree) (l c : Nat) : Option Nat :=
  firstIdx (fun p => p.1 == l && p.2 == c) (t.lens.zip t.codes)

/-- What reading one symbol gives. -/
inductive SymResult where
  /-- The symbol and the bits after its code. -/
  | sym (s : Nat) (rest : List Bool)
  /-- The data ends inside the code. -/
  | short
  /-- `HUF_NO_CODE`. -/
  | noCode
  deriving DecidableEq, Repr

/-- The loop of `HUF.DEC` (R215): `l` bits read so far with value `c`, `n` more may be read. -/
def decSymLoop (t : Tree) : Nat → Nat → Nat → List Bool → SymResult
  | 0, _, _, _ => .noCode
  | _ + 1, _, _, [] => .short
  | n + 1, l, c, b :: bs =>
    match t.sym (l + 1) (2 * c + b.toNat) with
    | some s => .sym s bs
    | none => decSymLoop t n (l + 1) (2 * c + b.toNat) bs

/-- `HUF.DEC` (R215). -/
def decSym (t : Tree) (bs : List Bool) : SymResult := decSymLoop t (maxLen t.lens) 0 0 bs

/-- The bits of `HUF.ENC` (R210, R71): the code of `s`, most significant bit first. -/
def symBits (t : Tree) (s : Nat) : List Bool := codeBits (t.lens.getD s 0) (t.codes.getD s 0)

/-- A node of the merge tree (R204): its key (frequency, index) and the depth reached so far by each leaf below it. -/
structure Node where
  freq : Nat
  idx : Nat
  leaves : List (Nat × Nat)
  deriving DecidableEq, Repr

/-- Key order of R204. -/
def Node.before (a b : Node) : Bool := a.freq < b.freq || (a.freq == b.freq && a.idx < b.idx)

/-- Insert a node into a list in rising key order. -/
def insertNode (n : Node) : List Node → List Node
  | [] => [n]
  | m :: ms => if n.before m then n :: m :: ms else m :: insertNode n ms

/-- Symbols with a frequency above 0, with it (`active` of R203). -/
def activeFrom (i : Nat) : List Nat → List (Nat × Nat)
  | [] => []
  | f :: fs => if f = 0 then activeFrom (i + 1) fs else (i, f) :: activeFrom (i + 1) fs

/-- Give frequency 1 to the lowest-numbered symbol that has none (R203). -/
def padOne : List Nat → List Nat
  | [] => []
  | f :: fs => if f = 0 then 1 :: fs else f :: padOne fs

/-- `PAD` (R203): at least two symbols active. -/
def padFreq (fs : List Nat) : List Nat :=
  match (activeFrom 0 fs).length with
  | 0 => padOne (padOne fs)
  | 1 => padOne fs
  | _ => fs

/-- The leaves as nodes in rising key order (R204). -/
def leafNodes (act : List (Nat × Nat)) : List Node :=
  act.foldl (fun q p => insertNode { freq := p.2, idx := p.1, leaves := [(p.1, 0)] } q) []

/-- One merge (R204): every leaf below the new node is one step further from the root (R205). -/
def mergeNodes (a b : Node) (next : Nat) : Node :=
  { freq := a.freq + b.freq, idx := next,
    leaves := (a.leaves ++ b.leaves).map (fun p => (p.1, p.2 + 1)) }

/-- `MERGE` and `DEPTHS` (R204, R205): merge the two nodes of smallest key until one is left, at most `fuel` times. -/
def mergeLoop : Nat → Nat → List Node → List (Nat × Nat)
  | fuel + 1, next, a :: b :: q => mergeLoop fuel (next + 1) (insertNode (mergeNodes a b next) q)
  | _, _, n :: _ => n.leaves
  | _, _, [] => []

/-- `DEPTHS(MERGE(f, active, N))` (R204, R205): symbol and depth. -/
def mergeDepths (fs : List Nat) : List (Nat × Nat) :=
  mergeLoop (activeFrom 0 fs).length fs.length (leafNodes (activeFrom 0 fs))

/-- The depth of symbol `s`, 0 where it is not active. -/
def depthOf (ds : List (Nat × Nat)) (s : Nat) : Nat :=
  match ds.find? (fun p => p.1 == s) with
  | some p => p.2
  | none => 0

/-- `bl[1..L]` of R206 as a list, entry 0 unused. -/
def clippedCounts (l : Nat) (depths : List Nat) : List Nat :=
  (List.range (l + 1)).map (fun b => depths.countP (fun d => d != 0 && min d l == b))

/-- Kraft sum of a count list (R206). -/
def kraftCounts (l : Nat) (bl : List Nat) : Nat :=
  ((List.range (l + 1)).map (fun b => if b = 0 then 0 else bl.getD b 0 * 2 ^ (l - b))).sum

/-- The largest length in 1..k with a code (R206). -/
def largestUsed (bl : List Nat) : Nat → Nat
  | 0 => 0
  | b + 1 => if bl.getD (b + 1) 0 = 0 then largestUsed bl b else b + 1

/-- One repair pass of R206: `bl[b] - 1`, `bl[b+1] + 2`, `bl[L] - 1`. -/
def limitPass (l : Nat) (bl : List Nat) : List Nat :=
  let b := largestUsed bl (l - 1)
  let bl := bl.set b (bl.getD b 0 - 1)
  let bl := bl.set (b + 1) (bl.getD (b + 1) 0 + 2)
  bl.set l (bl.getD l 0 - 1)

/-- `E` repair passes (R206). -/
def limitPasses (l : Nat) : Nat → List Nat → List Nat
  | 0, bl => bl
  | n + 1, bl => limitPasses l n (limitPass l bl)

/-- Insert into the order of R207: frequency descending, symbol ascending. -/
def insertByFreq (p : Nat × Nat) : List (Nat × Nat) → List (Nat × Nat)
  | [] => [p]
  | q :: qs => if q.2 < p.2 || (q.2 == p.2 && p.1 < q.1) then p :: q :: qs else q :: insertByFreq p qs

/-- The lengths of R207 shortest first: `bl[1]` ones, `bl[2]` twos, and so on. -/
def lengthsInOrder (l : Nat) (bl : List Nat) : List Nat :=
  (List.range (l + 1)).flatMap (fun b => if b = 0 then [] else List.replicate (bl.getD b 0) b)

/-- `LIMIT` (R206, R207): symbol and length. -/
def limitLengths (l : Nat) (act : List (Nat × Nat)) (depths : List Nat) : List (Nat × Nat) :=
  let bl := clippedCounts l depths
  let bl := limitPasses l (kraftCounts l bl - 2 ^ l) bl
  let order := act.foldl (fun q p => insertByFreq p q) []
  (order.map (fun p => p.1)).zip (lengthsInOrder l bl)

/-- `HUF.BUILD(FREQ, N, L)` (R202), `N` the length of `freq`. -/
def buildLengths (freq : List Nat) (l : Nat) : List Nat :=
  let fs := padFreq freq
  let ds := mergeDepths fs
  let depths := (List.range freq.length).map (depthOf ds)
  if maxLen depths ≤ l then depths
  else
    let ls := limitLengths l (activeFrom 0 fs) depths
    (List.range freq.length).map (depthOf ls)

/-- Length of the run of `v` at the head of a list. -/
def runLength (v : Nat) : List Nat → Nat
  | [] => 0
  | q :: qs => if q = v then runLength v qs + 1 else 0

/-- One item of `CL.RLE` (R249): symbol, extra value, number of extra bits. -/
structure RleItem where
  sym : Nat
  extra : Nat
  bits : Nat
  deriving DecidableEq, Repr

/-- The items of a run of `run` zeros (R249), at most `fuel` of symbol 18. -/
def rleZeros : Nat → Nat → List RleItem
  | 0, run => List.replicate run ⟨0, 0, 0⟩
  | fuel + 1, run =>
    if 11 ≤ run then ⟨18, min run 138 - 11, 7⟩ :: rleZeros fuel (run - min run 138)
    else if 3 ≤ run then [⟨17, run - 3, 3⟩]
    else List.replicate run ⟨0, 0, 0⟩

/-- The items of `run` further copies of the length `v` (R249). -/
def rleCopies (v : Nat) : Nat → Nat → List RleItem
  | 0, run => List.replicate run ⟨v, 0, 0⟩
  | fuel + 1, run =>
    if 3 ≤ run then ⟨16, min run 6 - 3, 2⟩ :: rleCopies v fuel (run - min run 6)
    else List.replicate run ⟨v, 0, 0⟩

/-- The items of one run of `run` copies of `v` (R249). -/
def rleRun (v run : Nat) : List RleItem :=
  if v = 0 then rleZeros run run else ⟨v, 0, 0⟩ :: rleCopies v run (run - 1)

/-- `CL.RLE(Q)` (R249), `fuel` at least the length of `Q`. -/
def rleLoop : Nat → List Nat → List RleItem
  | fuel + 1, q :: qs =>
    rleRun q (runLength q (q :: qs)) ++ rleLoop fuel ((q :: qs).drop (runLength q (q :: qs)))
  | _, _ => []

/-- `CL.RLE(Q)` (R249). -/
def clRle (q : List Nat) : List RleItem := rleLoop q.length q

/-- `1 + the largest s with LEN[s] > 0`, 0 where there is none (R247). -/
def usedCount : List Nat → Nat
  | [] => 0
  | n :: ns => if usedCount ns = 0 then (if n = 0 then 0 else 1) else usedCount ns + 1

/-- Occurrences of each symbol 0 to n-1 in a list of items (R248). -/
def itemFreq (n : Nat) (items : List RleItem) : List Nat :=
  (List.range n).map (fun s => items.countP (fun it => it.sym == s))

/-- `ncl` of R248. -/
def clCount (lens : List Nat) : Nat := max 4 (usedCount (clOrder.map (fun s => lens.getD s 0)))

/-- `LEN_CL` from the lengths in wire order (R259); symbols not reached have length 0. -/
def clLensOf (cl : List Nat) : List Nat :=
  (List.range 19).map (fun s =>
    match firstIdx (fun o => o == s) clOrder with
    | some j => cl.getD j 0
    | none => 0)

end Sys2Proof.Machine
end

