-- ==== Sys2Proof/Machine/Lz77.lean ====
section
/-! DEFINITION. The search of the Match Engine (41_lz77_match.md) on the bytes of one block. -/

namespace Sys2Proof.Machine

/-- The per-codec limits of R10 and the LZ4 end-of-block restrictions of R175. -/
structure MatchLimits where
  minMatch : Nat
  maxMatch : Nat
  maxOffset : Nat
  lz4 : Bool
  deriving DecidableEq, Repr

/-- A match: offset and length. `(0, 0)` stands for none (R173). -/
structure Found where
  off : Nat
  len : Nat
  deriving DecidableEq, Repr

/-- `cap(p)` (R172 (b); R175 for LZ4), `n` the length of the block. -/
def matchCap (m : MatchLimits) (n p : Nat) : Nat :=
  if m.lz4 then (if p + 12 ≤ n then min m.maxMatch (n - 5 - p) else 0)
  else min m.maxMatch (n - p)

/-- How many bytes agree, at most `cap` (the inner loop of R173). -/
def commonLen : Nat → List Byte → List Byte → Nat
  | cap + 1, a :: as, b :: bs => if a = b then commonLen cap as bs + 1 else 0
  | _, _, _ => 0

/-- The loop over the offsets of R173: `k` offsets left, `off` the next one; strictly longer only. -/
def findLoop (buf : List Byte) (p cap : Nat) : Nat → Nat → Found → Found
  | 0, _, best => best
  | k + 1, off, best =>
    let l := commonLen cap (buf.drop p) (buf.drop (p - off))
    findLoop buf p cap k (off + 1) (if best.len < l then ⟨off, l⟩ else best)

/-- `LZ.FIND(p)` (R173). -/
def lzFind (m : MatchLimits) (buf : List Byte) (p : Nat) : Found :=
  let cap := matchCap m buf.length p
  let best := if m.minMatch ≤ cap then findLoop buf p cap (min p m.maxOffset) 1 ⟨0, 0⟩ else ⟨0, 0⟩
  if m.minMatch ≤ best.len then best else ⟨0, 0⟩

/-- A pair that is a valid match at `p` (R172). -/
def ValidMatch (m : MatchLimits) (buf : List Byte) (p off len : Nat) : Prop :=
  1 ≤ off ∧ off ≤ min p m.maxOffset ∧ m.minMatch ≤ len ∧ len ≤ matchCap m buf.length p ∧
  ∀ k, k < len → buf.getD (p + k) 0 = buf.getD (p - off + k) 0

/-- A token as the Match Engine emits it (R92). -/
inductive Token where
  | lit (b : Byte)
  | mat (off len : Nat)
  deriving DecidableEq, Repr

/-- What one tokenizer step does at `p` (R176, R177): the token, and what is left in `MOFF` and `MLEN`. -/
structure LzStep where
  token : Token
  found : Found
  deriving DecidableEq, Repr

/-- `LZ.STEP` (R176). -/
def lzStepGreedy (m : MatchLimits) (buf : List Byte) (p : Nat) : LzStep :=
  let f := lzFind m buf p
  if f.len = 0 then { token := .lit (buf.getD p 0), found := f }
  else { token := .mat f.off f.len, found := f }

/-- `LZ.STEPLAZY` (R177): the probe at p + 1 leaves its own result in `MOFF` and `MLEN`. -/
def lzStepLazy (m : MatchLimits) (buf : List Byte) (p : Nat) : LzStep :=
  let f := lzFind m buf p
  if f.len = 0 then { token := .lit (buf.getD p 0), found := f }
  else if p + 1 < buf.length then
    let g := lzFind m buf (p + 1)
    if f.len < g.len then { token := .lit (buf.getD p 0), found := g }
    else { token := .mat f.off f.len, found := g }
  else { token := .mat f.off f.len, found := f }

/-- `LZ.STEP` or `LZ.STEPLAZY` by `SCFG.LAZY` (R178). -/
def lzStep (isLazy : Bool) (m : MatchLimits) (buf : List Byte) (p : Nat) : LzStep :=
  if isLazy then lzStepLazy m buf p else lzStepGreedy m buf p

/-- How many bytes a token covers (R178). -/
def Token.span : Token → Nat
  | .lit _ => 1
  | .mat _ len => len

/-- The token sequence of a block from position `p` on, without its `EOB` (R178). -/
def lzTokens (isLazy : Bool) (m : MatchLimits) (buf : List Byte) : Nat → Nat → List Token
  | 0, _ => []
  | fuel + 1, p =>
    if p < buf.length then
      (lzStep isLazy m buf p).token ::
        lzTokens isLazy m buf fuel (p + (lzStep isLazy m buf p).token.span)
    else []

/-- `LZ.BLOCK` (R178), without its `EOB`. -/
def lzBlock (isLazy : Bool) (m : MatchLimits) (buf : List Byte) : List Token :=
  lzTokens isLazy m buf buf.length 0

/-- `LZ.COPY` on a list of bytes produced so far (R181). -/
def copyBytes (off : Nat) : Nat → List Byte → List Byte
  | 0, out => out
  | len + 1, out => copyBytes off len (out ++ [out.getD (out.length - off) 0])

/-- Expansion of a token sequence (R178, R184). -/
def expand (out : List Byte) : List Token → List Byte
  | [] => out
  | .lit b :: ts => expand (out ++ [b]) ts
  | .mat off len :: ts => expand (copyBytes off len out) ts

end Sys2Proof.Machine
end

