-- ==== Sys2Proof/Machine/Operands.lean ====
section
/-! DEFINITION. The operands: what `SCFG` says (R30, R40), the per-codec parameters (R10, R175), the effective checksum
(R163), the symbol of a length or distance (R104, R105) and the trees held in the tables (R44, R45). -/

namespace Sys2Proof.Machine

/-- `CODEC` (R30). -/
inductive Codec where
  | deflate
  | zlib
  | gzip
  | lz4
  | snappy
  | zstd
  | reserved
  deriving DecidableEq, Repr

/-- The field of `w` bits at bit `lo` of a register. -/
def fieldOf (r : Word) (lo w : Nat) : Nat := r.toNat / 2 ^ lo % 2 ^ w

/-- `CFG.CODEC` (R30). -/
def codecOf (cfg : Word) : Codec :=
  match fieldOf cfg 0 3 with
  | 0 => .deflate
  | 1 => .zlib
  | 2 => .gzip
  | 3 => .lz4
  | 4 => .snappy
  | 5 => .zstd
  | _ => .reserved

/-- `CFG.CKSEL` (R30). -/
def ckselOf (cfg : Word) : Nat := fieldOf cfg 4 2

/-- `CFG.TREE_MODE` (R30). -/
def treeModeOf (cfg : Word) : Nat := fieldOf cfg 8 2

/-- `CFG.LAZY` (R30). -/
def lazyOf (cfg : Word) : Bool := fieldOf cfg 12 1 == 1

/-- `CFG.IOMODE` (R30): unbounded stream? -/
def streamOf (cfg : Word) : Bool := fieldOf cfg 13 1 == 1

/-- Is the codec one of DEFLATE, ZLIB, GZIP? -/
def Codec.isDeflate (c : Codec) : Bool :=
  match c with
  | .deflate => true
  | .zlib => true
  | .gzip => true
  | .lz4 => false
  | .snappy => false
  | .zstd => false
  | .reserved => false

/-- The codec of the session (R40). -/
def codec (s : State) : Codec := codecOf s.scfg.cfg

/-- `W = SCFG.WINDOW_KIB * 1024` (R10). -/
def windowBytes (s : State) : Nat := s.scfg.windowKib.toNat * 1024

/-- `Bs = SCFG.BLOCK_KIB * 1024` (R388). -/
def blockBytes (s : State) : Nat := s.scfg.blockKib.toNat * 1024

/-- N = `SCFG.ENGINES` (R390). -/
def engineCount (s : State) : Nat := s.scfg.engines.toNat

/-- The engine of block `i` (R390, R398). -/
def engineOf (s : State) (i : Word) : Nat := i.toNat % engineCount s

/-- Is the session in stream mode? (R396) -/
def streamMode (s : State) : Bool := streamOf s.scfg.cfg

/-- The match limits of the session's codec (R10, R175). -/
def matchLimits (s : State) : MatchLimits :=
  match codec s with
  | .lz4 => { minMatch := 4, maxMatch := 65535, maxOffset := min (windowBytes s) 65535, lz4 := true }
  | .snappy => { minMatch := 4, maxMatch := 64, maxOffset := windowBytes s, lz4 := false }
  | _ => { minMatch := 3, maxMatch := 258, maxOffset := windowBytes s, lz4 := false }

/-- The invariants of R92 on a match token. -/
def matchInRange (m : MatchLimits) (off len : Nat) : Bool :=
  decide (1 ≤ off ∧ off ≤ m.maxOffset ∧ m.minMatch ≤ len ∧ len ≤ m.maxMatch)

/-- Does a decompression of the codec have scheduling units? Only LZ4 does (R398, R400). A compression always does. -/
def hasUnits (s : State) : Bool :=
  match s.dir with
  | .compress => true
  | .decompress => codec s == .lz4

/-- The checksum algorithms (R163). -/
inductive Ck where
  | nothing
  | crc32
  | adler32
  deriving DecidableEq, Repr

/-- The effective checksum `ck` (R163). -/
def effectiveCk (s : State) : Ck :=
  match codec s with
  | .zlib => .adler32
  | .gzip => .crc32
  | _ =>
    match ckselOf s.scfg.cfg with
    | 1 => .crc32
    | 2 => .adler32
    | _ => .nothing

/-- The finalized effective checksum (R164); 0 for none. -/
def ckFinal (s : State) : Word :=
  match effectiveCk s with
  | .nothing => 0
  | .crc32 => crcFin s.crc
  | .adler32 => adlerFin s.adler

/-- The checksum unit takes bytes in stream order (R164): only the selected accumulator is updated. -/
def ckTake (bs : List Byte) (s : State) : State :=
  match effectiveCk s with
  | .nothing => s
  | .crc32 => { s with crc := crcUpd s.crc bs }
  | .adler32 => { s with adler := adlerUpd s.adler bs }

/-- Legal `WINDOW_KIB` of a codec (R10, R384). -/
def windowLegal (c : Codec) (w : Nat) : Bool :=
  w == 1 || w == 2 || w == 4 || w == 8 || w == 16 || w == 32 || (w == 64 && !c.isDeflate)

/-- `CFG.CHECK` (R384): the first test that fails. -/
def cfgCheck (p : Params) (c : Scfg) : Option Detail :=
  if 5 < fieldOf c.cfg 0 3 then some .cfgCodec
  else if 2 < ckselOf c.cfg then some .cfgCksel
  else if 2 < treeModeOf c.cfg then some .cfgTree
  else if c.blockKib.toNat < 1 ∨ Config.bmaxKib < c.blockKib.toNat then some .cfgBlock
  else if c.engines.toNat < 1 ∨ p.nmax < c.engines.toNat then some .cfgEngines
  else if codecOf c.cfg ≠ .zstd ∧ windowLegal (codecOf c.cfg) c.windowKib.toNat = false then some .cfgWindow
  else if codecOf c.cfg = .zstd then some .zstdCodec
  else none

/-- A symbol with its extra value and extra bit count (R244). -/
structure SymX where
  sym : Nat
  extra : Nat
  bits : Nat
  deriving DecidableEq, Repr

/-- The largest index below `n` whose base is at most `v`. -/
def lastBase (base : List Nat) (v : Nat) : Nat → Nat
  | 0 => 0
  | k + 1 => if base.getD (k + 1) 0 ≤ v then k + 1 else lastBase base v k

/-- `LENSYM(l)` (R244, R104). -/
def lenSym (l : Nat) : SymX :=
  if l = 258 then { sym := 285, extra := 0, bits := 0 }
  else
    let k := lastBase lenBaseTable l 27
    { sym := 257 + k, extra := l - lenBase (257 + k), bits := lenExtra (257 + k) }

/-- `DISTSYM(o)` (R244, R105). -/
def distSym (o : Nat) : SymX :=
  let k := lastBase distBaseTable o 29
  { sym := k, extra := o - distBase k, bits := distExtra k }

/-- The literal/length tree held in the tables. -/
def Tables.treeLL (t : Tables) : Tree := { lens := t.lenLL.map BitVec.toNat, codes := t.codeLL.map BitVec.toNat }

/-- The distance tree held in the tables. -/
def Tables.treeD (t : Tables) : Tree := { lens := t.lenD.map BitVec.toNat, codes := t.codeD.map BitVec.toNat }

/-- The code-length tree held in the tables. -/
def Tables.treeCL (t : Tables) : Tree := { lens := t.lenCL.map BitVec.toNat, codes := t.codeCL.map BitVec.toNat }

/-- Store a literal/length tree (R44, R45): 288 entries. -/
def Tables.withLL (t : Tables) (x : Tree) : Tables :=
  { t with lenLL := x.lens.map (BitVec.ofNat 4), codeLL := x.codes.map (BitVec.ofNat 15) }

/-- Store a distance tree: 32 entries. -/
def Tables.withD (t : Tables) (x : Tree) : Tables :=
  { t with lenD := x.lens.map (BitVec.ofNat 4), codeD := x.codes.map (BitVec.ofNat 15) }

/-- Store a code-length tree: 19 entries. -/
def Tables.withCL (t : Tables) (x : Tree) : Tables :=
  { t with lenCL := x.lens.map (BitVec.ofNat 3), codeCL := x.codes.map (BitVec.ofNat 7) }

/-- `HUF.FIXED` (R211). -/
def Tables.fixed (t : Tables) : Tables := (t.withLL fixedTreeLL).withD fixedTreeD

/-- A list brought to exactly `n` entries with zeros (R246, R260). -/
def padTo (n : Nat) (xs : List Nat) : List Nat := xs.take n ++ List.replicate (n - xs.length) 0

end Sys2Proof.Machine
end

