-- ==== Sys2Proof/Machine/Ops.lean ====
section
/-! DEFINITION. The named operations over memories, engines and ports; taking a failure (R440) as one shared operation,
with the normal end (R395), the cancel (R400), the start (R385) and the reset (R382) of a session beside it. -/

namespace Sys2Proof.Machine

/-- The three outcomes of a step of this machine. -/
abbrev Res := Host.Outcome State Fault Refusal

/-! ### Byte memories -/

/-- `MemRead(m, a, 1)` (R14); `none` where nothing has been written. -/
def Memory.read : Memory → Nat → Option Byte
  | [], _ => none
  | c :: m, a => if c.1 = a then some c.2 else Memory.read m a

/-- `MemWrite(m, a, 1, b)` (R14), keeping the addresses in rising order. -/
def Memory.write : Memory → Nat → Byte → Memory
  | [], a, b => [(a, b)]
  | c :: m, a, b =>
    if a < c.1 then (a, b) :: c :: m
    else if a = c.1 then (a, b) :: m
    else c :: Memory.write m a b

/-- A memory that holds a byte string from address `a` on. -/
def Memory.ofBytesAt : Nat → List Byte → Memory
  | _, [] => []
  | a, b :: bs => (a, b) :: Memory.ofBytesAt (a + 1) bs

/-- A memory that holds a byte string from address 0 on. -/
def Memory.ofBytes (bs : List Byte) : Memory := Memory.ofBytesAt 0 bs

/-- `n` bytes from address `a` on; `none` where one of them has not been written. -/
def Memory.readN (m : Memory) (a n : Nat) : Option (List Byte) :=
  match n, m with
  | 0, _ => some []
  | _ + 1, [] => none
  | n + 1, c :: m =>
    if c.1 < a then Memory.readN m a (n + 1)
    else if c.1 = a then
      match Memory.readN m (a + 1) n with
      | none => none
      | some s => some (c.2 :: s)
    else none
  termination_by structural m

/-! ### Engines -/

/-- Replace engine `e`. -/
def setEngine (e : Nat) (g : Engine) (s : State) : State := { s with engines := s.engines.set e g }

/-- Go on with engine `e`; an engine that was not built is a fault. -/
def withEngine (e : Nat) (s : State) (k : Engine → Res) : Res :=
  match s.engines[e]? with
  | none => .fault .noEngine
  | some g => k g

/-- One bit of `PUTBITS` (R70). -/
def putBit (b : Bool) (g : Engine) : Engine :=
  let acc := (g.bitacc &&& ~~~(1#8 <<< g.bitcnt.toNat)) ||| (BitVec.ofNat 8 (bit b) <<< g.bitcnt.toNat)
  if g.bitcnt = 7 then
    { g with bitacc := 0, bitcnt := 0, outlen := g.outlen + 1,
             result := { g.result with bytes := g.result.bytes ++ [acc] } }
  else { g with bitacc := acc, bitcnt := g.bitcnt + 1 }

/-- Bits in the order in which they are laid (R66). -/
def putBitList : List Bool → Engine → Engine
  | [], g => g
  | b :: bs, g => putBitList bs (putBit b g)

/-- `PUTBITS(v, k)` (R70). -/
def putBits (v k : Nat) (g : Engine) : Engine := putBitList (natBits k v) g

/-- `ALIGN()` on the write side (R71). -/
def alignOut (g : Engine) : Engine := if g.bitcnt = 0 then g else putBits 0 (8 - g.bitcnt.toNat) g

/-- `PUTBYTES(s)` (R70). -/
def putBytes (s : List Byte) (g : Engine) : Engine :=
  { g with outlen := g.outlen + BitVec.ofNat 32 s.length,
           result := { g.result with bytes := g.result.bytes ++ s } }

/-- `HUF.ENC(tree, s)` (R210). -/
def putSym (t : Tree) (s : Nat) (g : Engine) : Engine := putBitList (symBits t s) g

/-- A symbol and its extra bits (R244). -/
def putSymX (t : Tree) (x : SymX) (g : Engine) : Engine := putBits x.extra x.bits (putSym t x.sym g)

/-- The end of `ENGINE.RUN` (R391): the result is complete, the engine `DONE`. -/
def finishEngine (g : Engine) : Engine :=
  { g with st := .done,
           result := { g.result with usize := g.blklen, csize := g.outlen, index := g.unit.index,
                                     isFinal := g.unit.isFinal, errcode := 0, detail := 0 } }

/-- A failure inside an engine's unit (R441): recorded in `RESULT`, the engine `FAILED`. -/
def failEngine (d : Detail) (g : Engine) : Engine :=
  { g with st := .failed,
           result := { g.result with usize := g.blklen, csize := g.outlen, index := g.unit.index,
                                     isFinal := g.unit.isFinal, errcode := kindCode (detailKind d),
                                     detail := detailCode d } }

/-- The engine returns to the idle pool (R393). -/
def idleEngine (g : Engine) : Engine := { g with st := .idle }

/-! ### The output port -/

/-- The beats of a complete stream (R61). -/
def streamBeats : List Byte → List Beat
  | [] => [{ data := 0, last := true, empty := true }]
  | [b] => [{ data := b, last := true, empty := false }]
  | b :: bs => { data := b, last := false, empty := false } :: streamBeats bs

/-- Data beats that do not end a stream (R61). -/
def openBeats (bs : List Byte) : List Beat := bs.map fun b => { data := b, last := false, empty := false }

/-- The terminating beat (R61). -/
def endBeat : Beat := { data := 0, last := true, empty := true }

/-- The CORE produces output bytes (R396): held in `STAGE`, or, in stream mode, released but for the last one (log
entry 16). -/
def emit (bs : List Byte) (s : State) : State :=
  let all := s.stage ++ bs
  if streamMode s then
    { s with outcnt := s.outcnt + BitVec.ofNat 64 bs.length,
             outp := s.outp ++ openBeats (all.take (all.length - 1)),
             stage := all.drop (all.length - 1) }
  else { s with outcnt := s.outcnt + BitVec.ofNat 64 bs.length, stage := all }

/-- The whole of `STAGE` is released and the stream ends with it (R396, R80). -/
def closeDone (s : State) : State := { s with outp := s.outp ++ streamBeats s.stage, stage := [] }

/-- The output of a failed or cancelled session (R396, R440): the empty stream in bounded-buffer mode; the bytes
produced, then the terminating beat, in stream mode. -/
def closeCut (s : State) : State :=
  { s with outp := s.outp ++ (if streamMode s then openBeats s.stage else []) ++ [endBeat], stage := [] }

/-! ### The end of a session -/

/-- The data bytes waiting on `IN` of the stream after `k` others. -/
def streamData : Nat → List Beat → List Byte
  | _, [] => []
  | 0, b :: bs => (if b.empty then [] else [b.data]) ++ (if b.last then [] else streamData 0 bs)
  | k + 1, b :: bs => streamData (if b.last then k else k + 1) bs

/-- The bytes of the session's input stream that wait on `IN`. -/
def waitingData (s : State) : List Byte := if s.inEnded then [] else streamData s.discard s.inp

/-- How many bytes of the session's input stream have been supplied so far. -/
def suppliedBytes (s : State) : Nat := s.incnt.toNat + (waitingData s).length

/-- The blocks of the bytes supplied so far (R39; log entry 5): on compression the scheduler blocks they are cut into
(R388, R389), on LZ4 decompression the data blocks of the frame (R324). -/
def blockBound (s : State) : Nat :=
  match s.dir with
  | .compress =>
    max (max s.nextCut.toNat (bit (codec s).isDeflate)) ((suppliedBytes s + blockBytes s - 1) / blockBytes s)
  | .decompress => if codec s = .lz4 then lz4FrameBlocks (s.strm ++ waitingData s) else 0

/-- A free value not above `bound` (R39, U7; log entry 5). -/
def freeBelow (idx bound : Nat) : Nat := Config.freeCount idx % (bound + 1)

/-- Work in flight is dropped (R440, R393), and the rest of the input stream is to be discarded (R397). -/
def dropWork (s : State) : State :=
  { s with engines := s.engines.map idleEngine, asm := [], blockQ := [], want := .nothing, deferred := none,
           cancelReq := false, discard := if s.inEnded then s.discard else s.discard + 1 }

/-- The registers of a session that failed or was cancelled (R440, R400, R39). -/
def cutRegs (s : State) : Regs :=
  { s.regs with cksum := 0, outCount := if streamMode s then s.outcnt else 0,
                inCount := BitVec.ofNat 64 (freeBelow s.freeIdx (suppliedBytes s)),
                blockCount := BitVec.ofNat 32 (freeBelow (s.freeIdx + 1) (blockBound s)) }

/-- `FAIL(K, I)` (R440), from the codes of kind and detail and the unit the failure belongs to (R433): nothing outside
a session. -/
def failWith (k : BitVec 4) (d : BitVec 8) (eng : Nat) (blk : Word) (s : State) : State :=
  if busy s then
    { dropWork (closeCut s) with
      regs := { cutRegs s with errinfo := errinfoWord d eng, errblock := blk }
      errcode := k
      phase := .failed
      freeIdx := s.freeIdx + 2 }
  else s

/-- `ERRBLOCK` of a failure that belongs to no unit (R37). -/
def noBlock : Word := 0xFFFFFFFF

/-- TAKING A FAILURE that belongs to no unit (R440, R433). -/
def failSession (d : Detail) (s : State) : State :=
  failWith (kindCode (detailKind d)) (detailCode d) 0 noBlock s

/-- A `raise` of the session sequencer (R16, R441). A failure the LZ4 reader meets while blocks before it are not yet
collected waits for them (R399). -/
def raiseSeq (d : Detail) (s : State) : State :=
  if s.nextCollect = s.nextCut then failSession d s else { s with deferred := some d, want := .nothing }

/-- `CANCEL` takes effect (R400). -/
def cancelSession (s : State) : State :=
  { dropWork (closeCut s) with
    regs := cutRegs s
    errcode := 0
    phase := .cancelled
    freeIdx := s.freeIdx + 2 }

/-- The completion sequence (R395, R80). -/
def completeSession (s : State) : State :=
  { dropWork (closeDone s) with
    regs := { s.regs with cksum := ckFinal s, inCount := s.incnt, outCount := s.outcnt }
    phase := .done }

/-- The sampled configuration (R40). -/
def sampleCfg (r : Regs) : Scfg :=
  { cfg := r.cfg, blockKib := r.blockKib, windowKib := r.windowKib, engines := r.engines }

/-- The first element a decompression reads (R387). -/
def firstWant (c : Codec) : Want :=
  match c with
  | .deflate => .dflHdr
  | .zlib => .zlibHdr
  | .gzip => .gzipHdr
  | .lz4 => .lz4Magic
  | .snappy => .snpPre
  | .zstd => .nothing
  | .reserved => .nothing

/-- `SESSION.INIT` (R385). -/
def initSession (d : Dir) (s : State) : State :=
  { s with
    scfg := sampleCfg s.regs
    phase := .header
    dir := d
    errcode := 0
    regs := { s.regs with errinfo := 0, errblock := noBlock, cksum := 0, inCount := 0, outCount := 0, blockCount := 0 }
    crc := crcInit
    adler := adlerInit
    nextDispatch := 0
    nextCollect := 0
    incnt := 0
    outcnt := 0
    stage := []
    engines := s.engines.map idleEngine
    unp := { s.unp with cur := 0, bitpos := 0, produced := 0, declared := 0, outwin := [] }
    strm := []
    inEnded := false
    asm := []
    blockQ := []
    nextCut := 0
    want := match d with
      | .compress => .nothing
      | .decompress => firstWant (codecOf s.regs.cfg)
    content := []
    deferred := none
    cancelReq := false }

/-- An accepted start command (R385, R384, R383). -/
def startSession (d : Dir) (s : State) : State :=
  let s' := initSession d s
  match cfgCheck s.params s'.scfg with
  | none => s'
  | some e => failSession e s'

/-- `SOFT_RESET` and the hardware reset (R382, R470). What the host will do next, what it has read and the supply of
free values are not the CORE's state. -/
def resetMachine (s : State) : State :=
  { State.resetWith s.params with agenda := s.agenda, readData := s.readData, freeIdx := s.freeIdx }

/-! ### Decoder output -/

/-- `LZ.LITOUT(b)` of the session's unpacker (R180). -/
def litOut (b : Byte) (s : State) : State :=
  emit [b] (ckTake [b]
    { s with unp := { s.unp with outwin := s.unp.outwin.write s.unp.produced.toNat b,
                                 produced := s.unp.produced + 1 } })

/-- `LZ.LITOUT` of each byte of a string (R257, R360). -/
def litsOut : List Byte → State → State
  | [], s => s
  | b :: bs, s => litsOut bs (litOut b s)

/-- The byte `off` back in an output window (R181); `none` where nothing has been produced there. -/
def windowByte (u : Unpacker) (off : Nat) : Option Byte :=
  if off = 0 ∨ u.produced.toNat < off then none else u.outwin.read (u.produced.toNat - off)

/-- `LZ.COPY(off, len)` of the session's unpacker (R181): byte by byte, so it may read its own output. -/
def copyOut (off : Nat) : Nat → State → Option State
  | 0, s => some s
  | n + 1, s =>
    match windowByte s.unp off with
    | none => none
    | some b => copyOut off n (litOut b s)

/-- `LZ.LITOUT(b)` of an engine that decodes an LZ4 block (R180, R328). -/
def engLitOut (b : Byte) (g : Engine) : Engine :=
  putBytes [b]
    { g with unp := { g.unp with outwin := g.unp.outwin.write g.unp.produced.toNat b,
                                 produced := g.unp.produced + 1 } }

/-- `LZ.LITOUT` of each byte of a string, in an engine. -/
def engLitsOut : List Byte → Engine → Engine
  | [], g => g
  | b :: bs, g => engLitsOut bs (engLitOut b g)

/-- `LZ.COPY(off, len)` of an engine (R181). -/
def engCopyOut (off : Nat) : Nat → Engine → Option Engine
  | 0, g => some g
  | n + 1, g =>
    match windowByte g.unp off with
    | none => none
    | some b => engCopyOut off n (engLitOut b g)

/-- Go on with a state that exists only if every byte read had been written (U6). -/
def ofRead {α : Type} (o : Option α) (k : α → Res) : Res :=
  match o with
  | none => .fault .unwrittenRead
  | some a => k a

/-! ### Stream position -/

/-- The bits the unpacker has not yet read (R72). -/
def unreadBits (u : Unpacker) (src : List Byte) : List Bool :=
  (bitsOfBytes (src.drop u.cur.toNat)).drop u.bitpos.toNat

/-- Set `CUR` and `BITPOS` so that `left` bits of a source of `len` bytes are unread (R25, R72). -/
def moveTo (len left : Nat) (u : Unpacker) : Unpacker :=
  { u with cur := BitVec.ofNat 64 ((8 * len - left) / 8), bitpos := BitVec.ofNat 3 ((8 * len - left) % 8) }

/-- `ALIGN()` on the read side (R73). -/
def alignIn (u : Unpacker) : Unpacker := if u.bitpos = 0 then u else { u with bitpos := 0, cur := u.cur + 1 }

/-- `REMAINING()` (R73). -/
def remaining (s : State) : Nat := s.strm.length - s.unp.cur.toNat

end Sys2Proof.Machine
end

