-- ==== Sys2Proof/Machine/Beat.lean ====
section
/-! DEFINITION. The beats of the input port (R61, R388, R389, R397). -/

namespace Sys2Proof.Machine

/-- A complete block joins the distributor's queue (R388): block `nextCut`. Block index 0xFFFFFFFF would be the 2^32-th
block, which the model refuses (R486, U8). -/
def cutBlock (isFinal : Bool) (s : State) : Res :=
  if s.nextCut = noBlock then .refused .tooManyBlocks
  else
    .next { s with
      asm := [], nextCut := s.nextCut + 1
      blockQ := s.blockQ ++ [{ bytes := s.asm, start := BitVec.ofNat 64 (s.nextCut.toNat * blockBytes s),
                               isFinal := isFinal, stored := false, ck := none }] }

/-- A compression takes one input byte (R388, R164): it is counted, accumulated, and closes the block when the block is
full or the byte is the last. -/
def takeRaw (b : Byte) (last : Bool) (s : State) : Res :=
  let s' := ckTake [b] { s with incnt := s.incnt + 1, asm := s.asm ++ [b], inEnded := last }
  if last ∨ blockBytes s' ≤ s'.asm.length then cutBlock last s' else .next s'

/-- One data beat, taken from `IN`: it belongs to a stream being discarded (R397), else to the running session, else
it has no taker and nothing happens (log entry 26). -/
def takeBeat (b : Byte) (last : Bool) (s : State) : Res :=
  if 0 < s.discard then .next (if last then { s with discard := s.discard - 1 } else s)
  else if busy s && !s.inEnded then
    match s.dir with
    | .compress => takeRaw b last s
    | .decompress => .next { s with incnt := s.incnt + 1, strm := s.strm ++ [b], inEnded := last }
  else .next s

/-- `BEAT.DATA` (R61): a byte with `last` = 0. -/
def execBeatData (b : Byte) (s : State) : Res := takeBeat b false s

/-- `BEAT.DATA_LAST` (R61): a byte with `last` = 1. -/
def execBeatDataLast (b : Byte) (s : State) : Res := takeBeat b true s

/-- `BEAT.END_EMPTY` (R61): the end of the input without a byte. For an empty input the DEFLATE family gets one block of
length 0, LZ4 and Snappy none (R389); after data bytes it closes the block being filled (log entry 12). -/
def execBeatEndEmpty (s : State) : Res :=
  if 0 < s.discard then .next { s with discard := s.discard - 1 }
  else if busy s && !s.inEnded then
    let s' := { s with inEnded := true }
    match s.dir with
    | .compress => if (codec s).isDeflate ∨ s.asm ≠ [] then cutBlock true s' else .next s'
    | .decompress => .next s'
  else .next s

end Sys2Proof.Machine
end

