-- ==== Sys2Proof/Machine/Command.lean ====
section
/-! DEFINITION. The host commands (R94, R380 to R387, R400). -/

namespace Sys2Proof.Machine

/-- A start command (R380, R381): ignored while a session runs. -/
def startCommand (d : Dir) (s : State) : Res := .next (if busy s then s else startSession d s)

/-- `NOP` (R380): no effect. -/
def execNop (s : State) : Res := .next s

/-- `START_COMPRESS` (R386, R381). -/
def execStartCompress (s : State) : Res := startCommand .compress s

/-- `START_DECOMPRESS` (R387, R381). -/
def execStartDecompress (s : State) : Res := startCommand .decompress s

/-- `CANCEL` (R400): none outside a session; in one it is recorded and takes effect at the collector's next step, or at
the unpacker's where there are no units (log entry 14). -/
def execCancel (s : State) : Res := .next (if busy s then { s with cancelReq := true } else s)

/-- `SOFT_RESET` (R382). -/
def execSoftReset (s : State) : Res := .next (resetMachine s)

/-- Reserved command 5 acts as `NOP` (R94, R380). -/
def execCmdReserved5 (s : State) : Res := .next s

/-- Reserved commands 6 and 7 act as `NOP` (R94, R380). -/
def execCmdReserved6to7 (_lo : BitVec 1) (s : State) : Res := .next s

/-- Reserved commands 8 to 15 act as `NOP` (R94, R380). -/
def execCmdReserved8to15 (_lo : BitVec 3) (s : State) : Res := .next s

end Sys2Proof.Machine
end

