-- ==== Sys2Proof/Machine/ConfigField.lean ====
section
/-! DEFINITION. The configuration field values (R30, R95). -/

namespace Sys2Proof.Machine

/-- Write the field of `w` bits at bit `lo` of `CFG` (R30): every other bit stays. -/
def setCfg (lo w v : Nat) (s : State) : State :=
  let old := s.regs.cfg.toNat
  { s with regs := { s.regs with
      cfg := BitVec.ofNat 32 (old - fieldOf s.regs.cfg lo w * 2 ^ lo + v % 2 ^ w * 2 ^ lo) } }

/-- `CFG.CODEC=DEFLATE` (R30, R95): the register field takes the value 0; a running session is not affected (R40). -/
def execCfgCodecDeflate (s : State) : Res := .next (setCfg 0 3 0 s)

/-- `CFG.CODEC=ZLIB` (R30, R95): the register field takes the value 1; a running session is not affected (R40). -/
def execCfgCodecZlib (s : State) : Res := .next (setCfg 0 3 1 s)

/-- `CFG.CODEC=GZIP` (R30, R95): the register field takes the value 2; a running session is not affected (R40). -/
def execCfgCodecGzip (s : State) : Res := .next (setCfg 0 3 2 s)

/-- `CFG.CODEC=LZ4` (R30, R95): the register field takes the value 3; a running session is not affected (R40). -/
def execCfgCodecLz4 (s : State) : Res := .next (setCfg 0 3 3 s)

/-- `CFG.CODEC=SNAPPY` (R30, R95): the register field takes the value 4; a running session is not affected (R40). -/
def execCfgCodecSnappy (s : State) : Res := .next (setCfg 0 3 4 s)

/-- `CFG.CODEC=ZSTD` (R30, R95): the register field takes the value 5; a running session is not affected (R40). -/
def execCfgCodecZstd (s : State) : Res := .next (setCfg 0 3 5 s)

/-- `CFG.CODEC=RESERVED_6_7` (R30, R95): the register field takes the value 6 + lo; a running session is not affected (R40). -/
def execCfgCodecReserved (lo : BitVec 1) (s : State) : Res := .next (setCfg 0 3 (6 + lo.toNat) s)

/-- `CFG.CKSEL=NONE` (R30, R95): the register field takes the value 0; a running session is not affected (R40). -/
def execCfgCkselNone (s : State) : Res := .next (setCfg 4 2 0 s)

/-- `CFG.CKSEL=CRC32` (R30, R95): the register field takes the value 1; a running session is not affected (R40). -/
def execCfgCkselCrc32 (s : State) : Res := .next (setCfg 4 2 1 s)

/-- `CFG.CKSEL=ADLER32` (R30, R95): the register field takes the value 2; a running session is not affected (R40). -/
def execCfgCkselAdler32 (s : State) : Res := .next (setCfg 4 2 2 s)

/-- `CFG.CKSEL=RESERVED_3` (R30, R95): the register field takes the value 3; a running session is not affected (R40). -/
def execCfgCkselReserved3 (s : State) : Res := .next (setCfg 4 2 3 s)

/-- `CFG.TREE_MODE=STORED` (R30, R95): the register field takes the value 0; a running session is not affected (R40). -/
def execCfgTreeStored (s : State) : Res := .next (setCfg 8 2 0 s)

/-- `CFG.TREE_MODE=FIXED` (R30, R95): the register field takes the value 1; a running session is not affected (R40). -/
def execCfgTreeFixed (s : State) : Res := .next (setCfg 8 2 1 s)

/-- `CFG.TREE_MODE=DYNAMIC` (R30, R95): the register field takes the value 2; a running session is not affected (R40). -/
def execCfgTreeDynamic (s : State) : Res := .next (setCfg 8 2 2 s)

/-- `CFG.TREE_MODE=RESERVED_3` (R30, R95): the register field takes the value 3; a running session is not affected (R40). -/
def execCfgTreeReserved3 (s : State) : Res := .next (setCfg 8 2 3 s)

/-- `CFG.LAZY=0` (R30, R95): the register field takes the value 0; a running session is not affected (R40). -/
def execCfgLazy0 (s : State) : Res := .next (setCfg 12 1 0 s)

/-- `CFG.LAZY=1` (R30, R95): the register field takes the value 1; a running session is not affected (R40). -/
def execCfgLazy1 (s : State) : Res := .next (setCfg 12 1 1 s)

/-- `CFG.IOMODE=BUFFER` (R30, R95): the register field takes the value 0; a running session is not affected (R40). -/
def execCfgIomodeBuffer (s : State) : Res := .next (setCfg 13 1 0 s)

/-- `CFG.IOMODE=STREAM` (R30, R95): the register field takes the value 1; a running session is not affected (R40). -/
def execCfgIomodeStream (s : State) : Res := .next (setCfg 13 1 1 s)


end Sys2Proof.Machine
end

