-- ==== Sys2Proof/Machine/DeflateBlock.lean ====
section
/-! DEFINITION. The DEFLATE block headers and bodies read on decompression (R255 to R259, R267). -/

namespace Sys2Proof.Machine

/-- What follows the DEFLATE data (R267, R290). -/
def trailerWant (c : Codec) : Want :=
  match c with
  | .zlib => .zlibTrl
  | .gzip => .gzipTrl
  | .deflate => .trailing
  | .lz4 => .trailing
  | .snappy => .trailing
  | .zstd => .trailing
  | .reserved => .trailing

/-- The end of a DEFLATE block (R255, R267): the next header, or, after the final block, the aligned cursor and the
trailer. -/
def blockEnd (s : State) : State :=
  if s.unp.bfinal then
    { s with unp := alignIn s.unp, phase := .trailer, want := trailerWant (codec s) }
  else { s with want := .dflHdr }

/-- `BFINAL` and `BTYPE` of a block header (R255, R256). -/
def blockHeader (bfinal : Bool) (btype : BitVec 2) (s : State) : State :=
  { s with unp := { s.unp with bfinal := bfinal, btype := btype } }

/-- `DFL.BLOCK_STORED` (R255, R257). -/
def execDflBlockStored (bfinal : Bool) (s : State) : Res :=
  .next { blockHeader bfinal 0 s with want := .dflStored }

/-- `DFL.BLOCK_FIXED` (R255, R262): the fixed trees are loaded. -/
def execDflBlockFixed (bfinal : Bool) (s : State) : Res :=
  .next { blockHeader bfinal 1 s with want := .llSym, tabs := s.tabs.fixed }

/-- `DFL.BLOCK_DYNAMIC` (R255, R258). -/
def execDflBlockDynamic (bfinal : Bool) (s : State) : Res :=
  .next { blockHeader bfinal 2 s with want := .dflDyn }

/-- `DFL.BLOCK_RESERVED` (R256): `CorruptStream(DFL_BAD_BTYPE)` is taken. -/
def execDflBlockReserved (bfinal : Bool) (s : State) : Res :=
  .next (raiseSeq .dflBadBtype (blockHeader bfinal 3 s))

/-- `DFL.STORED_BODY` (R257). -/
def execDflStoredBody (len nlen : BitVec 16) (data : List Byte) (s : State) : Res :=
  .next (if nlen = ~~~len then blockEnd (litsOut data s) else raiseSeq .dflStoredLen s)

/-- `DFL.DYN_HEADER` (R258, R259). The codes are stored with the lengths, before the test (log entry 33). -/
def execDflDynHeader (hlit hdist : BitVec 5) (hclen : BitVec 4) (cl : List (BitVec 3)) (s : State) : Res :=
  let s := { s with unp := { s.unp with hlit := hlit, hdist := hdist, hclen := hclen } }
  if dynCountsBad hlit hdist then .next (raiseSeq .dflBadCounts s)
  else
    let t := treeOf (clLensOf (cl.map BitVec.toNat))
    let s := { s with tabs := s.tabs.withCL t, rdQ := [] }
    if overSubscribed 7 t.lens then .next (raiseSeq .dflClOversub s) else .next { s with want := .clSym }

end Sys2Proof.Machine
end

