-- ==== Sys2Proof/Machine/Frame.lean ====
section
/-! DEFINITION. The zlib and GZIP headers and trailers read on decompression (44_zlib_gzip_frame.md). -/

namespace Sys2Proof.Machine

/-- The stream header is valid: the body begins (R383). -/
def beginBody (w : Want) (s : State) : State := { s with phase := .body, want := w }

/-- `ZLIB.HEADER` (R283). -/
def execZlibHeader (cmf flg : Byte) (s : State) : Res :=
  match zlibDefect cmf flg (windowBytes s) with
  | some d => .next (raiseSeq d s)
  | none => .next (beginBody .dflHdr s)

/-- `ZLIB.TRAILER` (R284). -/
def execZlibTrailer (v : Word) (s : State) : Res :=
  .next (if v = adlerFin s.adler then { s with want := .trailing } else raiseSeq .zlibAdler s)

/-- The CRC16 a GZIP header should carry (R113, R288): of the header bytes before it; the cursor stands after it. -/
def headerCrc16 (s : State) : BitVec 16 := (crc32 (s.strm.take (s.unp.cur.toNat - 2))).setWidth 16

/-- `GZIP.HEADER` (R288). A part that its flag announces and that is absent was cut off. -/
def execGzipHeader (id1 id2 cm flg : Byte) (_mtime : Word) (_xfl _os : Byte) (_extra _name _comment : Option (List Byte))
    (crc16 : Option (BitVec 16)) (s : State) : Res :=
  match gzipFixedDefect id1 id2 cm flg with
  | some d => .next (raiseSeq d s)
  | none =>
    if flg.getLsbD 1 then
      match crc16 with
      | none => .next (raiseSeq .eof s)
      | some c => .next (if c = headerCrc16 s then beginBody .dflHdr s else raiseSeq .gzipBadHcrc s)
    else .next (beginBody .dflHdr s)

/-- `GZIP.TRAILER` (R289): the CRC is tested before the size. -/
def execGzipTrailer (crc : Word) (isize : Option Word) (s : State) : Res :=
  if crc = crcFin s.crc then
    match isize with
    | none => .next (raiseSeq .eof s)
    | some n => .next (if n = s.unp.produced.setWidth 32 then { s with want := .trailing } else raiseSeq .gzipIsize s)
  else .next (raiseSeq .gzipCrc s)

end Sys2Proof.Machine
end

