-- ==== Sys2Proof/Machine/Lz4.lean ====
section
/-! DEFINITION. The elements of an LZ4 frame and of its blocks (R321 to R330, R398). -/

namespace Sys2Proof.Machine

/-- `LZ4.MAGIC` (R321): the descriptor follows. -/
def execLz4Magic (s : State) : Res := .next { s with want := .lz4Desc }

/-- `LZ4.MAGIC_SKIPPABLE` (R321): `UnsupportedFeature(LZ4_SKIPPABLE)` is taken. -/
def execLz4MagicSkippable (_lo : BitVec 4) (s : State) : Res := .next (raiseSeq .lz4Skippable s)

/-- The header check byte (R115, R322): over the bytes from `FLG` up to the byte before the cursor. -/
def lz4HeaderCheck (s : State) : Byte :=
  BitVec.ofNat 8 ((xxh32 s.params.xxh ((s.strm.take (s.unp.cur.toNat - 1)).drop 4)).toNat / 256)

/-- The tests after the descriptor's bytes are read (R322, R323), then the blocks. -/
def lz4DescEnd (flg hc : Byte) (s : State) : State :=
  if hc ≠ lz4HeaderCheck s then raiseSeq .lz4BadHc s
  else if flg.getLsbD 0 then raiseSeq .lz4Dictid s
  else if flg.getLsbD 5 = false then raiseSeq .lz4Linked s
  else { s with phase := .body, want := .lz4Blk }

/-- `LZ4.DESCRIPTOR` (R322, R323). A part that is announced and absent was cut off. A descriptor that the stream cuts
short is never executed, so `BLKMAX` and `DECLARED` are then unwritten (log entry 35). -/
def execLz4Descriptor (flg : Byte) (bd : Option Byte) (csize : Option (BitVec 64)) (_dict : Option Word)
    (hc : Option Byte) (s : State) : Res :=
  match lz4FlgDefect flg with
  | some d => .next (raiseSeq d s)
  | none =>
    match bd with
    | none => .next (raiseSeq .eof s)
    | some b =>
      match lz4BdDefect b with
      | some d => .next (raiseSeq d s)
      | none =>
        let s := { s with lz4flg := flg, unp := { s.unp with
                     blkmax := BitVec.ofNat 23 (lz4MaxSize (b.toNat / 16 % 8)),
                     declared := csize.getD s.unp.declared } }
        match hc with
        | none => .next (raiseSeq .eof s)
        | some h => .next (lz4DescEnd flg h s)

/-- A data block is read whole and queued for its engine (R324, R398). `UNIT.START` is the byte index of its data in
the stream (log entry 11) and `UNIT.ISFINAL` is 0 in every block, the last included (log entry 28); the cursor stands
after the block. -/
def lz4Block (stored : Bool) (size : BitVec 31) (data : List Byte) (ck : Option Word) (s : State) : Res :=
  if s.unp.blkmax.toNat < size.toNat then .next (raiseSeq .lz4BlockTooBig s)
  else if s.lz4flg.getLsbD 4 ∧ ck = none then .next (raiseSeq .eof s)
  else if s.nextCut = noBlock then .refused .tooManyBlocks
  else
    .next { s with
      nextCut := s.nextCut + 1
      blockQ := s.blockQ ++ [{ bytes := data, isFinal := false, stored := stored,
                               start := s.unp.cur - BitVec.ofNat 64 (data.length + if ck = none then 0 else 4),
                               ck := if s.lz4flg.getLsbD 4 then ck else none }]
      want := .lz4Blk }

/-- `LZ4.BLOCK_COMPRESSED` (R324, R398). -/
def execLz4BlockCompressed (size : BitVec 31) (data : List Byte) (ck : Option Word) (s : State) : Res :=
  lz4Block false size data ck s

/-- `LZ4.BLOCK_STORED` (R324, R398). -/
def execLz4BlockStored (size : BitVec 31) (data : List Byte) (ck : Option Word) (s : State) : Res :=
  lz4Block true size data ck s

/-- `LZ4.ENDMARK` (R324): no further block; the sequencer waits for the blocks before it (R399). -/
def execLz4Endmark (s : State) : Res := .next { s with want := .lz4Drain }

/-- `LZ4.CONTENT_CHECKSUM` (R330). -/
def execLz4ContentChecksum (v : Word) (s : State) : Res :=
  .next (if v = xxh32 s.params.xxh s.content then { s with want := .trailing } else raiseSeq .lz4ContentCk s)

/-- Output of a sequence's literals (R325): `none` where the block would pass its maximum. -/
def seqLits (lits : List Byte) (g : Engine) : Option Engine :=
  if g.unp.blkmax.toNat < g.unp.produced.toNat + lits.length then none else some (engLitsOut lits g)

/-- A sequence of an LZ4 block in an engine (R325 to R327): the engine after it, or after recording its failure;
`none` where a byte was read that nothing wrote. -/
def seqEngine (window : Nat) (lits : List Byte) (mat : Option (BitVec 16 × Nat)) (g : Engine) : Option Engine :=
  match seqLits lits g with
  | none => some (failEngine .lz4OutTooBig g)
  | some g =>
    match mat with
    | none => some (failEngine .lz4BadSeq g)
    | some (off, m) =>
      if off = 0 ∨ g.unp.produced.toNat < off.toNat then some (failEngine .lz4BadOffset g)
      else if window < off.toNat then some (failEngine .distBeyondWindow g)
      else if g.unp.blkmax.toNat < g.unp.produced.toNat + (m + 4) then some (failEngine .lz4OutTooBig g)
      else engCopyOut off.toNat (m + 4) g

/-- `LZ4.SEQUENCE` (R325 to R327). -/
def execLz4Sequence (lits : List Byte) (mat : Option (BitVec 16 × Nat)) (s : State) : Res :=
  withEngine s.actor s fun g =>
    ofRead (seqEngine (windowBytes s) lits mat g) fun g' => .next (setEngine s.actor g' s)

/-- `LZ4.LAST_SEQUENCE` (R325, R329): the block is decoded. -/
def execLz4LastSequence (lits : List Byte) (s : State) : Res :=
  withEngine s.actor s fun g =>
    match seqLits lits g with
    | none => .next (setEngine s.actor (failEngine .lz4OutTooBig g) s)
    | some g' => .next (setEngine s.actor (finishEngine g') s)

end Sys2Proof.Machine
end

