-- ==== Sys2Proof/Machine/Snappy.lean ====
section
/-! DEFINITION. The Snappy preamble and elements read on decompression (R358 to R361). -/

namespace Sys2Proof.Machine

/-- `SNP.PREAMBLE` (R358); the elements start with nothing produced (R359). `DECLARED` is written once, at the end of a
varint that passes (log entry 35). -/
def execSnpPreamble (bs : List Byte) (s : State) : Res :=
  if varintBad bs then .next (raiseSeq .snpBadVarint s)
  else
    .next { s with phase := .body, want := .snpTag,
                   unp := { s.unp with declared := BitVec.ofNat 64 (varintValue bs), produced := 0, outwin := [] } }

/-- `SNP.LITERAL` (R360): the overrun test comes before the bytes. -/
def execSnpLiteral (m : BitVec 6) (ext data : List Byte) (s : State) : Res :=
  if s.unp.declared.toNat < s.unp.produced.toNat + snpLitLen m ext then .next (raiseSeq .snpOverrun s)
  else .next (litsOut data s)

/-- A copy element (R361): the three tests in order, then `LZ.COPY`. -/
def snpCopy (off len : Nat) (s : State) : Res :=
  if off = 0 ∨ s.unp.produced.toNat < off then .next (raiseSeq .snpBadOffset s)
  else if windowBytes s < off then .next (raiseSeq .distBeyondWindow s)
  else if s.unp.declared.toNat < s.unp.produced.toNat + len then .next (raiseSeq .snpOverrun s)
  else ofRead (copyOut off len s) fun s' => .next s'

/-- `SNP.COPY1` (R361, R121). -/
def execSnpCopy1 (len3 : BitVec 3) (off : BitVec 11) (s : State) : Res := snpCopy off.toNat (len3.toNat + 4) s

/-- `SNP.COPY2` (R361, R121). -/
def execSnpCopy2 (len6 : BitVec 6) (off : BitVec 16) (s : State) : Res := snpCopy off.toNat (len6.toNat + 1) s

/-- `SNP.COPY4` (R361, R121). -/
def execSnpCopy4 (len6 : BitVec 6) (off : BitVec 32) (s : State) : Res := snpCopy off.toNat (len6.toNat + 1) s

end Sys2Proof.Machine
end

