-- ==== Sys2Proof/Machine/Symbols.lean ====
section
/-! DEFINITION. The symbols of the three DEFLATE alphabets read on decompression (R260 to R266). -/

namespace Sys2Proof.Machine

/-! ### Literal/length symbols (R263) -/

/-- A length symbol (R263, R104): the length is kept for the distance symbol that follows. -/
def lengthSym (s0 e : Nat) (s : State) : Res :=
  .next { s with rdLen := lenBase s0 + e, want := .dSym }

/-- `LL.LITERAL` (R263): `LZ.LITOUT`. -/
def execLlLiteral (b : Byte) (s : State) : Res := .next (litOut b s)

/-- `LL.EOB` (R263): the end of the block. -/
def execLlEob (s : State) : Res := .next (blockEnd s)

/-- `LL.LEN_257` (R104, R263). -/
def execLlLen257 (s : State) : Res := lengthSym 257 0 s

/-- `LL.LEN_258` (R104, R263). -/
def execLlLen258 (s : State) : Res := lengthSym 258 0 s

/-- `LL.LEN_259` (R104, R263). -/
def execLlLen259 (s : State) : Res := lengthSym 259 0 s

/-- `LL.LEN_260` (R104, R263). -/
def execLlLen260 (s : State) : Res := lengthSym 260 0 s

/-- `LL.LEN_261` (R104, R263). -/
def execLlLen261 (s : State) : Res := lengthSym 261 0 s

/-- `LL.LEN_262` (R104, R263). -/
def execLlLen262 (s : State) : Res := lengthSym 262 0 s

/-- `LL.LEN_263` (R104, R263). -/
def execLlLen263 (s : State) : Res := lengthSym 263 0 s

/-- `LL.LEN_264` (R104, R263). -/
def execLlLen264 (s : State) : Res := lengthSym 264 0 s

/-- `LL.LEN_265` (R104, R263). -/
def execLlLen265 (e : BitVec 1) (s : State) : Res := lengthSym 265 e.toNat s

/-- `LL.LEN_266` (R104, R263). -/
def execLlLen266 (e : BitVec 1) (s : State) : Res := lengthSym 266 e.toNat s

/-- `LL.LEN_267` (R104, R263). -/
def execLlLen267 (e : BitVec 1) (s : State) : Res := lengthSym 267 e.toNat s

/-- `LL.LEN_268` (R104, R263). -/
def execLlLen268 (e : BitVec 1) (s : State) : Res := lengthSym 268 e.toNat s

/-- `LL.LEN_269` (R104, R263). -/
def execLlLen269 (e : BitVec 2) (s : State) : Res := lengthSym 269 e.toNat s

/-- `LL.LEN_270` (R104, R263). -/
def execLlLen270 (e : BitVec 2) (s : State) : Res := lengthSym 270 e.toNat s

/-- `LL.LEN_271` (R104, R263). -/
def execLlLen271 (e : BitVec 2) (s : State) : Res := lengthSym 271 e.toNat s

/-- `LL.LEN_272` (R104, R263). -/
def execLlLen272 (e : BitVec 2) (s : State) : Res := lengthSym 272 e.toNat s

/-- `LL.LEN_273` (R104, R263). -/
def execLlLen273 (e : BitVec 3) (s : State) : Res := lengthSym 273 e.toNat s

/-- `LL.LEN_274` (R104, R263). -/
def execLlLen274 (e : BitVec 3) (s : State) : Res := lengthSym 274 e.toNat s

/-- `LL.LEN_275` (R104, R263). -/
def execLlLen275 (e : BitVec 3) (s : State) : Res := lengthSym 275 e.toNat s

/-- `LL.LEN_276` (R104, R263). -/
def execLlLen276 (e : BitVec 3) (s : State) : Res := lengthSym 276 e.toNat s

/-- `LL.LEN_277` (R104, R263). -/
def execLlLen277 (e : BitVec 4) (s : State) : Res := lengthSym 277 e.toNat s

/-- `LL.LEN_278` (R104, R263). -/
def execLlLen278 (e : BitVec 4) (s : State) : Res := lengthSym 278 e.toNat s

/-- `LL.LEN_279` (R104, R263). -/
def execLlLen279 (e : BitVec 4) (s : State) : Res := lengthSym 279 e.toNat s

/-- `LL.LEN_280` (R104, R263). -/
def execLlLen280 (e : BitVec 4) (s : State) : Res := lengthSym 280 e.toNat s

/-- `LL.LEN_281` (R104, R263). -/
def execLlLen281 (e : BitVec 5) (s : State) : Res := lengthSym 281 e.toNat s

/-- `LL.LEN_282` (R104, R263). -/
def execLlLen282 (e : BitVec 5) (s : State) : Res := lengthSym 282 e.toNat s

/-- `LL.LEN_283` (R104, R263). -/
def execLlLen283 (e : BitVec 5) (s : State) : Res := lengthSym 283 e.toNat s

/-- `LL.LEN_284` (R104, R263). -/
def execLlLen284 (e : BitVec 5) (s : State) : Res := lengthSym 284 e.toNat s

/-- `LL.LEN_285` (R104, R263). -/
def execLlLen285 (s : State) : Res := lengthSym 285 0 s

/-- `LL.ILLEGAL_286_287` (R264): `CorruptStream(DFL_BAD_LLSYM)` is taken. -/
def execLlIllegal (_lo : BitVec 1) (s : State) : Res := .next (raiseSeq .dflBadLlsym s)

/-! ### Distance symbols (R263, R265, R266) -/

/-- A distance symbol (R263): the two tests of R266, then `LZ.COPY` with the length read before. -/
def distanceSym (s0 e : Nat) (s : State) : Res :=
  let d := distBase s0 + e
  if s.unp.produced.toNat < d then .next (raiseSeq .dflDistTooFar s)
  else if windowBytes s < d then .next (raiseSeq .distBeyondWindow s)
  else ofRead (copyOut d s.rdLen s) fun s' => .next { s' with want := .llSym }

/-- `D.DIST_0` (R105, R263, R266). -/
def execDDist0 (s : State) : Res := distanceSym 0 0 s

/-- `D.DIST_1` (R105, R263, R266). -/
def execDDist1 (s : State) : Res := distanceSym 1 0 s

/-- `D.DIST_2` (R105, R263, R266). -/
def execDDist2 (s : State) : Res := distanceSym 2 0 s

/-- `D.DIST_3` (R105, R263, R266). -/
def execDDist3 (s : State) : Res := distanceSym 3 0 s

/-- `D.DIST_4` (R105, R263, R266). -/
def execDDist4 (e : BitVec 1) (s : State) : Res := distanceSym 4 e.toNat s

/-- `D.DIST_5` (R105, R263, R266). -/
def execDDist5 (e : BitVec 1) (s : State) : Res := distanceSym 5 e.toNat s

/-- `D.DIST_6` (R105, R263, R266). -/
def execDDist6 (e : BitVec 2) (s : State) : Res := distanceSym 6 e.toNat s

/-- `D.DIST_7` (R105, R263, R266). -/
def execDDist7 (e : BitVec 2) (s : State) : Res := distanceSym 7 e.toNat s

/-- `D.DIST_8` (R105, R263, R266). -/
def execDDist8 (e : BitVec 3) (s : State) : Res := distanceSym 8 e.toNat s

/-- `D.DIST_9` (R105, R263, R266). -/
def execDDist9 (e : BitVec 3) (s : State) : Res := distanceSym 9 e.toNat s

/-- `D.DIST_10` (R105, R263, R266). -/
def execDDist10 (e : BitVec 4) (s : State) : Res := distanceSym 10 e.toNat s

/-- `D.DIST_11` (R105, R263, R266). -/
def execDDist11 (e : BitVec 4) (s : State) : Res := distanceSym 11 e.toNat s

/-- `D.DIST_12` (R105, R263, R266). -/
def execDDist12 (e : BitVec 5) (s : State) : Res := distanceSym 12 e.toNat s

/-- `D.DIST_13` (R105, R263, R266). -/
def execDDist13 (e : BitVec 5) (s : State) : Res := distanceSym 13 e.toNat s

/-- `D.DIST_14` (R105, R263, R266). -/
def execDDist14 (e : BitVec 6) (s : State) : Res := distanceSym 14 e.toNat s

/-- `D.DIST_15` (R105, R263, R266). -/
def execDDist15 (e : BitVec 6) (s : State) : Res := distanceSym 15 e.toNat s

/-- `D.DIST_16` (R105, R263, R266). -/
def execDDist16 (e : BitVec 7) (s : State) : Res := distanceSym 16 e.toNat s

/-- `D.DIST_17` (R105, R263, R266). -/
def execDDist17 (e : BitVec 7) (s : State) : Res := distanceSym 17 e.toNat s

/-- `D.DIST_18` (R105, R263, R266). -/
def execDDist18 (e : BitVec 8) (s : State) : Res := distanceSym 18 e.toNat s

/-- `D.DIST_19` (R105, R263, R266). -/
def execDDist19 (e : BitVec 8) (s : State) : Res := distanceSym 19 e.toNat s

/-- `D.DIST_20` (R105, R263, R266). -/
def execDDist20 (e : BitVec 9) (s : State) : Res := distanceSym 20 e.toNat s

/-- `D.DIST_21` (R105, R263, R266). -/
def execDDist21 (e : BitVec 9) (s : State) : Res := distanceSym 21 e.toNat s

/-- `D.DIST_22` (R105, R263, R266). -/
def execDDist22 (e : BitVec 10) (s : State) : Res := distanceSym 22 e.toNat s

/-- `D.DIST_23` (R105, R263, R266). -/
def execDDist23 (e : BitVec 10) (s : State) : Res := distanceSym 23 e.toNat s

/-- `D.DIST_24` (R105, R263, R266). -/
def execDDist24 (e : BitVec 11) (s : State) : Res := distanceSym 24 e.toNat s

/-- `D.DIST_25` (R105, R263, R266). -/
def execDDist25 (e : BitVec 11) (s : State) : Res := distanceSym 25 e.toNat s

/-- `D.DIST_26` (R105, R263, R266). -/
def execDDist26 (e : BitVec 12) (s : State) : Res := distanceSym 26 e.toNat s

/-- `D.DIST_27` (R105, R263, R266). -/
def execDDist27 (e : BitVec 12) (s : State) : Res := distanceSym 27 e.toNat s

/-- `D.DIST_28` (R105, R263, R266). -/
def execDDist28 (e : BitVec 13) (s : State) : Res := distanceSym 28 e.toNat s

/-- `D.DIST_29` (R105, R263, R266). -/
def execDDist29 (e : BitVec 13) (s : State) : Res := distanceSym 29 e.toNat s

/-- `D.ILLEGAL_30_31` (R265): `CorruptStream(DFL_BAD_DSYM)` is taken. -/
def execDIllegal (_lo : BitVec 1) (s : State) : Res := .next (raiseSeq .dflBadDsym s)

/-! ### Code-length symbols (R260, R261) -/

/-- `nll` of the block being read (R258). -/
def nllRead (s : State) : Nat := s.unp.hlit.toNat + 257

/-- `nd` of the block being read (R258). -/
def ndRead (s : State) : Nat := s.unp.hdist.toNat + 1

/-- The end of R260 and the checks of R261: the two tables are loaded, tested, and the symbols follow. The codes are
stored with the lengths, before the tests (log entry 33). -/
def finishLens (s : State) : State :=
  let q := s.rdQ.map BitVec.toNat
  let ll := treeOf (padTo 288 (q.take (nllRead s)))
  let d := treeOf (padTo 32 ((q.drop (nllRead s)).take (ndRead s)))
  let s := { s with tabs := (s.tabs.withLL ll).withD d }
  if ll.lens.getD 256 0 = 0 then raiseSeq .dflNoEob s
  else if overSubscribed 15 ll.lens then raiseSeq .dflLlOversub s
  else if overSubscribed 15 d.lens then raiseSeq .dflDOversub s
  else { s with want := .llSym }

/-- Append to Q (R260); with all lengths read the tables are loaded. -/
def appendLens (v : BitVec 4) (n : Nat) (s : State) : State :=
  let s := { s with rdQ := s.rdQ ++ List.replicate n v }
  if nllRead s + ndRead s ≤ s.rdQ.length then finishLens s else s

/-- A repeat of `v` (R260): past the end of the lengths it is `DFL_BAD_REPEAT`. -/
def repeatLens (v : BitVec 4) (n : Nat) (s : State) : State :=
  if nllRead s + ndRead s < s.rdQ.length + n then raiseSeq .dflBadRepeat s else appendLens v n s

/-- `CL.LEN_0` (R108, R260). -/
def execClLen0 (s : State) : Res := .next (appendLens 0 1 s)

/-- `CL.LEN_1` (R108, R260). -/
def execClLen1 (s : State) : Res := .next (appendLens 1 1 s)

/-- `CL.LEN_2` (R108, R260). -/
def execClLen2 (s : State) : Res := .next (appendLens 2 1 s)

/-- `CL.LEN_3` (R108, R260). -/
def execClLen3 (s : State) : Res := .next (appendLens 3 1 s)

/-- `CL.LEN_4` (R108, R260). -/
def execClLen4 (s : State) : Res := .next (appendLens 4 1 s)

/-- `CL.LEN_5` (R108, R260). -/
def execClLen5 (s : State) : Res := .next (appendLens 5 1 s)

/-- `CL.LEN_6` (R108, R260). -/
def execClLen6 (s : State) : Res := .next (appendLens 6 1 s)

/-- `CL.LEN_7` (R108, R260). -/
def execClLen7 (s : State) : Res := .next (appendLens 7 1 s)

/-- `CL.LEN_8` (R108, R260). -/
def execClLen8 (s : State) : Res := .next (appendLens 8 1 s)

/-- `CL.LEN_9` (R108, R260). -/
def execClLen9 (s : State) : Res := .next (appendLens 9 1 s)

/-- `CL.LEN_10` (R108, R260). -/
def execClLen10 (s : State) : Res := .next (appendLens 10 1 s)

/-- `CL.LEN_11` (R108, R260). -/
def execClLen11 (s : State) : Res := .next (appendLens 11 1 s)

/-- `CL.LEN_12` (R108, R260). -/
def execClLen12 (s : State) : Res := .next (appendLens 12 1 s)

/-- `CL.LEN_13` (R108, R260). -/
def execClLen13 (s : State) : Res := .next (appendLens 13 1 s)

/-- `CL.LEN_14` (R108, R260). -/
def execClLen14 (s : State) : Res := .next (appendLens 14 1 s)

/-- `CL.LEN_15` (R108, R260). -/
def execClLen15 (s : State) : Res := .next (appendLens 15 1 s)

/-- `CL.REP_PREV` (R108, R260): with no previous length `CorruptStream(DFL_BAD_REPEAT)` is taken. -/
def execClRepPrev (e : BitVec 2) (s : State) : Res :=
  match s.rdQ.getLast? with
  | none => .next (raiseSeq .dflBadRepeat s)
  | some v => .next (repeatLens v (3 + e.toNat) s)

/-- `CL.REP_ZERO_SHORT` (R108, R260). -/
def execClRepZeroShort (e : BitVec 3) (s : State) : Res := .next (repeatLens 0 (3 + e.toNat) s)

/-- `CL.REP_ZERO_LONG` (R108, R260). -/
def execClRepZeroLong (e : BitVec 7) (s : State) : Res := .next (repeatLens 0 (11 + e.toNat) s)

end Sys2Proof.Machine
end

