-- ==== Sys2Proof/Machine/Token.lean ====
section
/-! DEFINITION. The token words and the packers that consume them (R92, R180 to R182, R241 to R252, R314 to R319, R353 to
R355). -/

namespace Sys2Proof.Machine

/-! ### Decoder side (R180, R181) -/

/-- `LZ.LITOUT` where the session decompresses: the session's window, or the engine's for LZ4 (R328). -/
def tokLitOut (b : Byte) (s : State) : Res :=
  if codec s = .lz4 then withEngine s.actor s fun g => .next (setEngine s.actor (engLitOut b g) s)
  else .next (litOut b s)

/-- `LZ.COPY` where the session decompresses. -/
def tokCopyOut (off len : Nat) (s : State) : Res :=
  if codec s = .lz4 then
    withEngine s.actor s fun g => ofRead (engCopyOut off len g) fun g' => .next (setEngine s.actor g' s)
  else ofRead (copyOut off len s) fun s' => .next s'

/-! ### DEFLATE packer -/

/-- Add 1 to entry `i` of a frequency table (R245). -/
def bump (i : Nat) (fs : List Word) : List Word := fs.set i (fs.getD i 0 + 1)

/-- `PUTBITS(ISFINAL, 1); PUTBITS(BTYPE, 2)` (R241). -/
def putHeader (btype : Nat) (g : Engine) : Engine := putBits btype 2 (putBits (bit g.unit.isFinal) 1 g)

/-- The trees of a dynamic block from its statistics (R246). -/
def buildTrees (g : Engine) : Tables :=
  (g.tabs.withLL (treeOf (padTo 288 (buildLengths (g.freqLL.map BitVec.toNat) 15)))).withD
    (treeOf (padTo 32 (buildLengths (g.freqD.map BitVec.toNat) 15)))

/-- `nll` (R247). -/
def nllOf (t : Tables) : Nat := max 257 (usedCount (t.lenLL.map BitVec.toNat))

/-- `nd` (R247). -/
def ndOf (t : Tables) : Nat := max 1 (usedCount (t.lenD.map BitVec.toNat))

/-- The items of the serialized tree (R248, R249). -/
def treeItems (t : Tables) : List RleItem :=
  clRle ((t.lenLL.map BitVec.toNat).take (nllOf t) ++ (t.lenD.map BitVec.toNat).take (ndOf t))

/-- Write the items with the code-length tree (R250). -/
def putItems (t : Tree) : List RleItem → Engine → Engine
  | [], g => g
  | it :: its, g => putItems t its (putBits it.extra it.bits (putSym t it.sym g))

/-- Write the code-length-code lengths in wire order (R250). -/
def putClLens (lens : List Nat) : List Nat → Engine → Engine
  | [], g => g
  | o :: os, g => putClLens lens os (putBits (lens.getD o 0) 3 g)

/-- Steps 2 to 5 of `DFL.DYNBODY` up to the tokens (R246 to R250), after the three header bits (R241). -/
def writeDynHeader (g : Engine) : Engine :=
  let t := buildTrees g
  let items := treeItems t
  let freq := itemFreq 19 items
  let lensCL := buildLengths freq 7
  let t := t.withCL (treeOf lensCL)
  let g := putHeader 2 { g with tabs := t, freqCL := freq.map (BitVec.ofNat 32) }
  let g := putBits (clCount lensCL - 4) 4 (putBits (ndOf t - 1) 5 (putBits (nllOf t - 257) 5 g))
  putItems (treeOf lensCL) items (putClLens lensCL (clOrder.take (clCount lensCL)) g)

/-- The end of a fixed or dynamic block (R251, R252): padding, or the SYNC marker. -/
def endBlock (g : Engine) : Engine :=
  if g.unit.isFinal then alignOut g else putBytes [0, 0, 255, 255] (alignOut (putBits 0 3 g))

/-- `LIT b` in the DEFLATE packer: counted (R245) or written (R244). -/
def dflLit (b : Byte) (g : Engine) : Engine :=
  if g.job = .count then { g with freqLL := bump b.toNat g.freqLL }
  else putSym g.tabs.treeLL b.toNat g

/-- `MATCH o, l` in the DEFLATE packer (R245, R244). -/
def dflMatch (off len : Nat) (g : Engine) : Engine :=
  if g.job = .count then
    { g with freqLL := bump (lenSym len).sym g.freqLL, freqD := bump (distSym off).sym g.freqD }
  else putSymX g.tabs.treeD (distSym off) (putSymX g.tabs.treeLL (lenSym len) g)

/-- `EOB` in the DEFLATE packer: after the statistics the trees are built and the header written, and `TOKBUF` is read
again (R245 to R250); after the tokens the block ends (R251, R252). -/
def dflEob (g : Engine) : Engine :=
  if g.job = .count then
    { writeDynHeader { g with freqLL := bump 256 g.freqLL } with job := .pack, tokRd := 0, cov := 0 }
  else finishEngine (endBlock (putSym g.tabs.treeLL 256 g))

/-! ### LZ4 and Snappy packers -/

/-- The pending literals `BLKBUF[p - LITRUN .. p)` (R315, R355). -/
def pendingLits (g : Engine) : Option (List Byte) :=
  g.blkbuf.readN (g.cov.toNat - g.litrun.toNat) g.litrun.toNat

/-- A literal is gathered (R315, R355). -/
def gatherLit (g : Engine) : Engine := { g with litrun := g.litrun + 1, cov := g.cov + 1 }

/-- `SEQ(LITRUN, o, l)` (R315). The scratch result of R319 is packed in `RESULT.BYTES` and counted in `OUTLEN` (log
entry 36). -/
def lz4Match (off len : Nat) (g : Engine) : Option Engine :=
  match pendingLits g with
  | none => none
  | some s =>
    some { putBytes (lz4SeqBytes s (some (off, len - 4))) g with litrun := 0, cov := g.cov + BitVec.ofNat 23 len }

/-- The last sequence, then the choice of `LZ4.WRBLK` (R315, R319): `scratch` are the packed bytes, held in
`RESULT.BYTES` until here; `RESULT.BYTES` and `OUTLEN` then start anew for the result (log entry 36). `LITRUN` stays. -/
def lz4Eob (g : Engine) : Option Engine :=
  match pendingLits g with
  | none => none
  | some s =>
    let scratch := g.result.bytes ++ lz4SeqBytes s none
    if scratch.length < g.blklen.toNat then
      some (finishEngine (putBytes (leBytes 4 scratch.length ++ scratch)
        { g with outlen := 0, result := { g.result with bytes := [] } }))
    else
      match g.blkbuf.readN 0 g.blklen.toNat with
      | none => none
      | some raw =>
        some (finishEngine (putBytes (leBytes 4 (2147483648 + raw.length) ++ raw)
          { g with outlen := 0, result := { g.result with bytes := [] } }))

/-- The pending literals as one Snappy element, if there are any (R355). -/
def snpFlush (g : Engine) : Option Engine :=
  match pendingLits g with
  | none => none
  | some s => some (if s = [] then g else putBytes (snpLiteralBytes s) g)

/-- `MATCH o, l` in `SNP.PACK` (R355, R354). -/
def snpMatch (off len : Nat) (g : Engine) : Option Engine :=
  match snpFlush g with
  | none => none
  | some g => some { putBytes (snpCopyBytes off len) g with litrun := 0, cov := g.cov + BitVec.ofNat 23 len }

/-- `EOB` in `SNP.PACK` (R355): `LITRUN` stays. -/
def snpEob (g : Engine) : Option Engine :=
  match snpFlush g with
  | none => none
  | some g => some (finishEngine g)

/-- Which packer consumes the tokens (R182). -/
inductive Packer where
  | dfl
  | lz4
  | snp
  | nobody
  deriving DecidableEq, Repr

/-- The packer of the session's codec (R182). -/
def packer (s : State) : Packer :=
  match codec s with
  | .deflate => .dfl
  | .zlib => .dfl
  | .gzip => .dfl
  | .lz4 => .lz4
  | .snappy => .snp
  | .zstd => .nobody
  | .reserved => .nobody

/-- The engine's new state, or the fault of a read of something unwritten. -/
def storeEngine (s : State) (o : Option Engine) : Res := ofRead o fun g => .next (setEngine s.actor g s)

/-- The packer consumes a literal. -/
def packLit (b : Byte) (s : State) : Res :=
  withEngine s.actor s fun g =>
    match packer s with
    | .dfl => storeEngine s (some (dflLit b g))
    | .lz4 => storeEngine s (some (gatherLit g))
    | .snp => storeEngine s (some (gatherLit g))
    | .nobody => .fault .noCodec

/-- The packer consumes a match; one outside the invariants of R92 is produced by no Match Engine. -/
def packMatch (off len : Nat) (s : State) : Res :=
  withEngine s.actor s fun g =>
    match packer s with
    | .nobody => .fault .noCodec
    | p =>
      if matchInRange (matchLimits s) off len then
        match p with
        | .dfl => storeEngine s (some (dflMatch off len g))
        | .lz4 => storeEngine s (lz4Match off len g)
        | _ => storeEngine s (snpMatch off len g)
      else .fault .tokenRange

/-- The packer consumes the end mark. -/
def packEob (s : State) : Res :=
  withEngine s.actor s fun g =>
    match packer s with
    | .dfl => storeEngine s (some (dflEob g))
    | .lz4 => storeEngine s (lz4Eob g)
    | .snp => storeEngine s (snpEob g)
    | .nobody => .fault .noCodec

/-- `LIT b`: the decoder's `LZ.LITOUT` (R180); on compression the packer's consumption of the token (R182). -/
def execLit (b : Byte) (s : State) : Res :=
  match s.dir with
  | .decompress => tokLitOut b s
  | .compress => packLit b s

/-- `MATCH off, len`: the decoder's `LZ.COPY` (R181); on compression the packer's consumption of the token (R182). -/
def execMatchTok (off : BitVec 17) (len : BitVec 16) (s : State) : Res :=
  match s.dir with
  | .decompress => tokCopyOut off.toNat len.toNat s
  | .compress => packMatch off.toNat len.toNat s

/-- `EOB` (R92): the end of a block's token sequence; "carries no data", so a decoder has nothing to do. -/
def execEob (s : State) : Res :=
  match s.dir with
  | .decompress => .next s
  | .compress => packEob s

/-- A token of reserved kind: "the model refuses" (R92, R125). -/
def execTokenReserved (_x : BitVec 38) (_s : State) : Res := .refused .reservedToken

end Sys2Proof.Machine
end

