-- ==== Sys2Proof/Machine/Dispatch.lean ====
section
/-! DEFINITION. The meaning of every element: one arm per constructor, each one call of its meaning. -/

namespace Sys2Proof.Machine

def exec (i : Instr) (s : State) : Host.Outcome State Fault Refusal :=
  match i with
  | .nop => Sys2Proof.Machine.execNop s
  | .startCompress => Sys2Proof.Machine.execStartCompress s
  | .startDecompress => Sys2Proof.Machine.execStartDecompress s
  | .cancel => Sys2Proof.Machine.execCancel s
  | .softReset => Sys2Proof.Machine.execSoftReset s
  | .cmdReserved5 => Sys2Proof.Machine.execCmdReserved5 s
  | .cmdReserved6to7 lo => Sys2Proof.Machine.execCmdReserved6to7 lo s
  | .cmdReserved8to15 lo => Sys2Proof.Machine.execCmdReserved8to15 lo s
  | .cfgCodecDeflate => Sys2Proof.Machine.execCfgCodecDeflate s
  | .cfgCodecZlib => Sys2Proof.Machine.execCfgCodecZlib s
  | .cfgCodecGzip => Sys2Proof.Machine.execCfgCodecGzip s
  | .cfgCodecLz4 => Sys2Proof.Machine.execCfgCodecLz4 s
  | .cfgCodecSnappy => Sys2Proof.Machine.execCfgCodecSnappy s
  | .cfgCodecZstd => Sys2Proof.Machine.execCfgCodecZstd s
  | .cfgCodecReserved lo => Sys2Proof.Machine.execCfgCodecReserved lo s
  | .cfgCkselNone => Sys2Proof.Machine.execCfgCkselNone s
  | .cfgCkselCrc32 => Sys2Proof.Machine.execCfgCkselCrc32 s
  | .cfgCkselAdler32 => Sys2Proof.Machine.execCfgCkselAdler32 s
  | .cfgCkselReserved3 => Sys2Proof.Machine.execCfgCkselReserved3 s
  | .cfgTreeStored => Sys2Proof.Machine.execCfgTreeStored s
  | .cfgTreeFixed => Sys2Proof.Machine.execCfgTreeFixed s
  | .cfgTreeDynamic => Sys2Proof.Machine.execCfgTreeDynamic s
  | .cfgTreeReserved3 => Sys2Proof.Machine.execCfgTreeReserved3 s
  | .cfgLazy0 => Sys2Proof.Machine.execCfgLazy0 s
  | .cfgLazy1 => Sys2Proof.Machine.execCfgLazy1 s
  | .cfgIomodeBuffer => Sys2Proof.Machine.execCfgIomodeBuffer s
  | .cfgIomodeStream => Sys2Proof.Machine.execCfgIomodeStream s
  | .beatData b => Sys2Proof.Machine.execBeatData b s
  | .beatDataLast b => Sys2Proof.Machine.execBeatDataLast b s
  | .beatEndEmpty => Sys2Proof.Machine.execBeatEndEmpty s
  | .lit b => Sys2Proof.Machine.execLit b s
  | .matchTok off len => Sys2Proof.Machine.execMatchTok off len s
  | .eob => Sys2Proof.Machine.execEob s
  | .tokenReserved x => Sys2Proof.Machine.execTokenReserved x s
  | .dflBlockStored bfinal => Sys2Proof.Machine.execDflBlockStored bfinal s
  | .dflBlockFixed bfinal => Sys2Proof.Machine.execDflBlockFixed bfinal s
  | .dflBlockDynamic bfinal => Sys2Proof.Machine.execDflBlockDynamic bfinal s
  | .dflBlockReserved bfinal => Sys2Proof.Machine.execDflBlockReserved bfinal s
  | .dflStoredBody len nlen data => Sys2Proof.Machine.execDflStoredBody len nlen data s
  | .dflDynHeader hlit hdist hclen cl => Sys2Proof.Machine.execDflDynHeader hlit hdist hclen cl s
  | .llLiteral b => Sys2Proof.Machine.execLlLiteral b s
  | .llEob => Sys2Proof.Machine.execLlEob s
  | .llLen257 => Sys2Proof.Machine.execLlLen257 s
  | .llLen258 => Sys2Proof.Machine.execLlLen258 s
  | .llLen259 => Sys2Proof.Machine.execLlLen259 s
  | .llLen260 => Sys2Proof.Machine.execLlLen260 s
  | .llLen261 => Sys2Proof.Machine.execLlLen261 s
  | .llLen262 => Sys2Proof.Machine.execLlLen262 s
  | .llLen263 => Sys2Proof.Machine.execLlLen263 s
  | .llLen264 => Sys2Proof.Machine.execLlLen264 s
  | .llLen265 e => Sys2Proof.Machine.execLlLen265 e s
  | .llLen266 e => Sys2Proof.Machine.execLlLen266 e s
  | .llLen267 e => Sys2Proof.Machine.execLlLen267 e s
  | .llLen268 e => Sys2Proof.Machine.execLlLen268 e s
  | .llLen269 e => Sys2Proof.Machine.execLlLen269 e s
  | .llLen270 e => Sys2Proof.Machine.execLlLen270 e s
  | .llLen271 e => Sys2Proof.Machine.execLlLen271 e s
  | .llLen272 e => Sys2Proof.Machine.execLlLen272 e s
  | .llLen273 e => Sys2Proof.Machine.execLlLen273 e s
  | .llLen274 e => Sys2Proof.Machine.execLlLen274 e s
  | .llLen275 e => Sys2Proof.Machine.execLlLen275 e s
  | .llLen276 e => Sys2Proof.Machine.execLlLen276 e s
  | .llLen277 e => Sys2Proof.Machine.execLlLen277 e s
  | .llLen278 e => Sys2Proof.Machine.execLlLen278 e s
  | .llLen279 e => Sys2Proof.Machine.execLlLen279 e s
  | .llLen280 e => Sys2Proof.Machine.execLlLen280 e s
  | .llLen281 e => Sys2Proof.Machine.execLlLen281 e s
  | .llLen282 e => Sys2Proof.Machine.execLlLen282 e s
  | .llLen283 e => Sys2Proof.Machine.execLlLen283 e s
  | .llLen284 e => Sys2Proof.Machine.execLlLen284 e s
  | .llLen285 => Sys2Proof.Machine.execLlLen285 s
  | .llIllegal lo => Sys2Proof.Machine.execLlIllegal lo s
  | .dDist0 => Sys2Proof.Machine.execDDist0 s
  | .dDist1 => Sys2Proof.Machine.execDDist1 s
  | .dDist2 => Sys2Proof.Machine.execDDist2 s
  | .dDist3 => Sys2Proof.Machine.execDDist3 s
  | .dDist4 e => Sys2Proof.Machine.execDDist4 e s
  | .dDist5 e => Sys2Proof.Machine.execDDist5 e s
  | .dDist6 e => Sys2Proof.Machine.execDDist6 e s
  | .dDist7 e => Sys2Proof.Machine.execDDist7 e s
  | .dDist8 e => Sys2Proof.Machine.execDDist8 e s
  | .dDist9 e => Sys2Proof.Machine.execDDist9 e s
  | .dDist10 e => Sys2Proof.Machine.execDDist10 e s
  | .dDist11 e => Sys2Proof.Machine.execDDist11 e s
  | .dDist12 e => Sys2Proof.Machine.execDDist12 e s
  | .dDist13 e => Sys2Proof.Machine.execDDist13 e s
  | .dDist14 e => Sys2Proof.Machine.execDDist14 e s
  | .dDist15 e => Sys2Proof.Machine.execDDist15 e s
  | .dDist16 e => Sys2Proof.Machine.execDDist16 e s
  | .dDist17 e => Sys2Proof.Machine.execDDist17 e s
  | .dDist18 e => Sys2Proof.Machine.execDDist18 e s
  | .dDist19 e => Sys2Proof.Machine.execDDist19 e s
  | .dDist20 e => Sys2Proof.Machine.execDDist20 e s
  | .dDist21 e => Sys2Proof.Machine.execDDist21 e s
  | .dDist22 e => Sys2Proof.Machine.execDDist22 e s
  | .dDist23 e => Sys2Proof.Machine.execDDist23 e s
  | .dDist24 e => Sys2Proof.Machine.execDDist24 e s
  | .dDist25 e => Sys2Proof.Machine.execDDist25 e s
  | .dDist26 e => Sys2Proof.Machine.execDDist26 e s
  | .dDist27 e => Sys2Proof.Machine.execDDist27 e s
  | .dDist28 e => Sys2Proof.Machine.execDDist28 e s
  | .dDist29 e => Sys2Proof.Machine.execDDist29 e s
  | .dIllegal lo => Sys2Proof.Machine.execDIllegal lo s
  | .clLen0 => Sys2Proof.Machine.execClLen0 s
  | .clLen1 => Sys2Proof.Machine.execClLen1 s
  | .clLen2 => Sys2Proof.Machine.execClLen2 s
  | .clLen3 => Sys2Proof.Machine.execClLen3 s
  | .clLen4 => Sys2Proof.Machine.execClLen4 s
  | .clLen5 => Sys2Proof.Machine.execClLen5 s
  | .clLen6 => Sys2Proof.Machine.execClLen6 s
  | .clLen7 => Sys2Proof.Machine.execClLen7 s
  | .clLen8 => Sys2Proof.Machine.execClLen8 s
  | .clLen9 => Sys2Proof.Machine.execClLen9 s
  | .clLen10 => Sys2Proof.Machine.execClLen10 s
  | .clLen11 => Sys2Proof.Machine.execClLen11 s
  | .clLen12 => Sys2Proof.Machine.execClLen12 s
  | .clLen13 => Sys2Proof.Machine.execClLen13 s
  | .clLen14 => Sys2Proof.Machine.execClLen14 s
  | .clLen15 => Sys2Proof.Machine.execClLen15 s
  | .clRepPrev e => Sys2Proof.Machine.execClRepPrev e s
  | .clRepZeroShort e => Sys2Proof.Machine.execClRepZeroShort e s
  | .clRepZeroLong e => Sys2Proof.Machine.execClRepZeroLong e s
  | .zlibHeader cmf flg => Sys2Proof.Machine.execZlibHeader cmf flg s
  | .zlibTrailer v => Sys2Proof.Machine.execZlibTrailer v s
  | .gzipHeader id1 id2 cm flg mtime xfl os extra name comment crc16 => Sys2Proof.Machine.execGzipHeader id1 id2 cm flg mtime xfl os extra name comment crc16 s
  | .gzipTrailer crc isize => Sys2Proof.Machine.execGzipTrailer crc isize s
  | .lz4Magic => Sys2Proof.Machine.execLz4Magic s
  | .lz4MagicSkippable lo => Sys2Proof.Machine.execLz4MagicSkippable lo s
  | .lz4Descriptor flg bd csize dict hc => Sys2Proof.Machine.execLz4Descriptor flg bd csize dict hc s
  | .lz4BlockCompressed size data ck => Sys2Proof.Machine.execLz4BlockCompressed size data ck s
  | .lz4BlockStored size data ck => Sys2Proof.Machine.execLz4BlockStored size data ck s
  | .lz4Endmark => Sys2Proof.Machine.execLz4Endmark s
  | .lz4ContentChecksum v => Sys2Proof.Machine.execLz4ContentChecksum v s
  | .lz4Sequence lits mat => Sys2Proof.Machine.execLz4Sequence lits mat s
  | .lz4LastSequence lits => Sys2Proof.Machine.execLz4LastSequence lits s
  | .snpPreamble bs => Sys2Proof.Machine.execSnpPreamble bs s
  | .snpLiteral m ext data => Sys2Proof.Machine.execSnpLiteral m ext data s
  | .snpCopy1 len3 off => Sys2Proof.Machine.execSnpCopy1 len3 off s
  | .snpCopy2 len6 off => Sys2Proof.Machine.execSnpCopy2 len6 off s
  | .snpCopy4 len6 off => Sys2Proof.Machine.execSnpCopy4 len6 off s

end Sys2Proof.Machine
end

