-- ==== Sys2Proof/WellFormed.lean ====
section
/-! DEFINITION. Which terms of `Instr` are encodings of an element: every operand in the range its format admits, and
the optional parts of a header present exactly when its flags say so. A header that fails a test carries none of the
parts that come after the test, because they are not read (R288, R322, R258, R257). -/

namespace Sys2Proof

open Machine

/-- The optional fields of a GZIP header agree with its flags (R113). -/
def gzipOptsOk (id1 id2 cm flg : Byte) (extra name comment : Option (List Byte))
    (crc16 : Option (BitVec 16)) : Bool :=
  if (gzipFixedDefect id1 id2 cm flg).isSome then
    extra.isNone && name.isNone && comment.isNone && crc16.isNone
  else
    (extra.isSome == flg.getLsbD 2) && decide ((extra.getD []).length < 65536) &&
    (name.isSome == flg.getLsbD 3) && (name.getD []).all (fun b => b != 0) &&
    (comment.isSome == flg.getLsbD 4) && (comment.getD []).all (fun b => b != 0) &&
    (crc16.isSome == flg.getLsbD 1)

/-- The parts of an LZ4 frame descriptor agree with its `FLG` and `BD` bytes (R115, R322). -/
def lz4DescOk (flg : Byte) (bd : Option Byte) (csize : Option (BitVec 64)) (dict : Option Word)
    (hc : Option Byte) : Bool :=
  if (lz4FlgDefect flg).isSome then bd.isNone && csize.isNone && dict.isNone && hc.isNone
  else
    match bd with
    | none => false
    | some b =>
      if (lz4BdDefect b).isSome then csize.isNone && dict.isNone && hc.isNone
      else (csize.isSome == flg.getLsbD 3) && (dict.isSome == flg.getLsbD 0) && hc.isSome

/-- The well-formed elements. -/
def Instr.wellFormed (i : Instr) : Bool :=
  match i with
  | .nop => true
  | .startCompress => true
  | .startDecompress => true
  | .cancel => true
  | .softReset => true
  | .cmdReserved5 => true
  | .cmdReserved6to7 _ => true
  | .cmdReserved8to15 _ => true
  | .cfgCodecDeflate => true
  | .cfgCodecZlib => true
  | .cfgCodecGzip => true
  | .cfgCodecLz4 => true
  | .cfgCodecSnappy => true
  | .cfgCodecZstd => true
  | .cfgCodecReserved _ => true
  | .cfgCkselNone => true
  | .cfgCkselCrc32 => true
  | .cfgCkselAdler32 => true
  | .cfgCkselReserved3 => true
  | .cfgTreeStored => true
  | .cfgTreeFixed => true
  | .cfgTreeDynamic => true
  | .cfgTreeReserved3 => true
  | .cfgLazy0 => true
  | .cfgLazy1 => true
  | .cfgIomodeBuffer => true
  | .cfgIomodeStream => true
  | .beatData _ => true
  | .beatDataLast _ => true
  | .beatEndEmpty => true
  | .lit _ => true
  | .matchTok off len =>
    decide (1 ≤ off.toNat) && decide (off.toNat ≤ 65536) && decide (3 ≤ len.toNat)
  | .eob => true
  | .tokenReserved _ => true
  | .dflBlockStored _ => true
  | .dflBlockFixed _ => true
  | .dflBlockDynamic _ => true
  | .dflBlockReserved _ => true
  | .dflStoredBody len nlen data =>
    if nlen = ~~~len then data.length == len.toNat else data.isEmpty
  | .dflDynHeader hlit hdist hclen cl =>
    if dynCountsBad hlit hdist then cl.isEmpty else cl.length == hclen.toNat + 4
  | .llLiteral _ => true
  | .llEob => true
  | .llLen257 => true
  | .llLen258 => true
  | .llLen259 => true
  | .llLen260 => true
  | .llLen261 => true
  | .llLen262 => true
  | .llLen263 => true
  | .llLen264 => true
  | .llLen265 _ => true
  | .llLen266 _ => true
  | .llLen267 _ => true
  | .llLen268 _ => true
  | .llLen269 _ => true
  | .llLen270 _ => true
  | .llLen271 _ => true
  | .llLen272 _ => true
  | .llLen273 _ => true
  | .llLen274 _ => true
  | .llLen275 _ => true
  | .llLen276 _ => true
  | .llLen277 _ => true
  | .llLen278 _ => true
  | .llLen279 _ => true
  | .llLen280 _ => true
  | .llLen281 _ => true
  | .llLen282 _ => true
  | .llLen283 _ => true
  | .llLen284 _ => true
  | .llLen285 => true
  | .llIllegal _ => true
  | .dDist0 => true
  | .dDist1 => true
  | .dDist2 => true
  | .dDist3 => true
  | .dDist4 _ => true
  | .dDist5 _ => true
  | .dDist6 _ => true
  | .dDist7 _ => true
  | .dDist8 _ => true
  | .dDist9 _ => true
  | .dDist10 _ => true
  | .dDist11 _ => true
  | .dDist12 _ => true
  | .dDist13 _ => true
  | .dDist14 _ => true
  | .dDist15 _ => true
  | .dDist16 _ => true
  | .dDist17 _ => true
  | .dDist18 _ => true
  | .dDist19 _ => true
  | .dDist20 _ => true
  | .dDist21 _ => true
  | .dDist22 _ => true
  | .dDist23 _ => true
  | .dDist24 _ => true
  | .dDist25 _ => true
  | .dDist26 _ => true
  | .dDist27 _ => true
  | .dDist28 _ => true
  | .dDist29 _ => true
  | .dIllegal _ => true
  | .clLen0 => true
  | .clLen1 => true
  | .clLen2 => true
  | .clLen3 => true
  | .clLen4 => true
  | .clLen5 => true
  | .clLen6 => true
  | .clLen7 => true
  | .clLen8 => true
  | .clLen9 => true
  | .clLen10 => true
  | .clLen11 => true
  | .clLen12 => true
  | .clLen13 => true
  | .clLen14 => true
  | .clLen15 => true
  | .clRepPrev _ => true
  | .clRepZeroShort _ => true
  | .clRepZeroLong _ => true
  | .zlibHeader _ _ => true
  | .zlibTrailer _ => true
  | .gzipHeader id1 id2 cm flg _ _ _ extra name comment crc16 =>
    gzipOptsOk id1 id2 cm flg extra name comment crc16
  | .gzipTrailer _ _ => true
  | .lz4Magic => true
  | .lz4MagicSkippable _ => true
  | .lz4Descriptor flg bd csize dict hc =>
    lz4DescOk flg bd csize dict hc
  | .lz4BlockCompressed size data ck =>
    size != 0 && (data.length == size.toNat || (data.isEmpty && ck.isNone))
  | .lz4BlockStored size data ck =>
    data.length == size.toNat || (data.isEmpty && ck.isNone)
  | .lz4Endmark => true
  | .lz4ContentChecksum _ => true
  | .lz4Sequence _ mat =>
    mat.isSome
  | .lz4LastSequence _ => true
  | .snpPreamble bs =>
    varintShape 0 bs
  | .snpLiteral m ext data =>
    ext.length == snpExtLen m && (data.isEmpty || data.length == snpLitLen m ext)
  | .snpCopy1 _ _ => true
  | .snpCopy2 _ _ => true
  | .snpCopy4 _ _ => true

end Sys2Proof
end

