-- ==== Sys2Proof/Decode.lean ====
section
/-! DEFINITION. Decoding and encoding (30_encoding.md). Which format a bit string is read as is not in the bits (R95),
so both take a context: the format, with the trees or limits that steer its reading. A source is the list of bits not
yet read, a stream's bytes bit 0 first (R66, R72); its length modulo 8 gives the bit cursor. Reading is strictly in
order and stops at the first defect (R268, R445), so nothing after a failing part is looked at. -/

namespace Sys2Proof

open Machine

/-- What steers the reading of one element. -/
inductive Ctx where
  /-- `CTRL[3:0]` (R94). -/
  | cmd
  /-- One field of `CFG` (R95). -/
  | cfg (f : CfgField)
  /-- A beat of ten bits; `data` in bits 7:0, `last` bit 8, `empty` bit 9 (R61; log entry 9). -/
  | beat
  /-- A token word (R92). -/
  | token
  /-- A DEFLATE block header (R100). -/
  | dflHdr
  /-- A stored block body, from its `pad` bits of padding on (R101). -/
  | dflStored (pad : Nat)
  /-- A dynamic block header (R107). -/
  | dflDyn
  /-- A literal/length symbol under a tree (R102, R104). -/
  | llSym (t : Tree)
  /-- A distance symbol under a tree (R105). -/
  | dSym (t : Tree)
  /-- A code-length symbol under a tree (R108); `noPrev` where no length has been read yet, so that there is none to
  repeat (R260). -/
  | clSym (t : Tree) (noPrev : Bool)
  /-- The zlib header (R110). -/
  | zlibHdr
  /-- The zlib trailer (R111). -/
  | zlibTrl
  /-- The GZIP header (R112, R113). -/
  | gzipHdr
  /-- The GZIP trailer (R114), with the CRC the stream should have. -/
  | gzipTrl (crc : Word)
  /-- The LZ4 magic (R115). -/
  | lz4Magic
  /-- The LZ4 frame descriptor (R115). -/
  | lz4Desc
  /-- An LZ4 data block or the end mark (R116), with the frame's block maximum and whether blocks have checksums. -/
  | lz4Blk (blkmax : Nat) (blockCk : Bool)
  /-- The LZ4 content checksum (R116). -/
  | lz4Content
  /-- A sequence of an LZ4 block; the source is the block's data (R117). -/
  | lz4Seq
  /-- The Snappy preamble (R120). -/
  | snpPre
  /-- A Snappy element (R121), with the number of bytes still to be produced. -/
  | snpTag (room : Nat)
  deriving DecidableEq, Repr

/-- What reading one element gives. -/
inductive Decoded where
  /-- The element and the bits after it. -/
  | ok (i : Instr) (rest : List Bool)
  /-- The source ends inside the element. -/
  | short
  /-- The bits are no element: the failure the reader raises. -/
  | bad (d : Detail)
  /-- The bits are no word of a format of the CORE's own (R92, R61): refused. -/
  | illegal
  deriving DecidableEq, Repr

/-- Go on with what was read, or stop where the source ended. -/
def need {α : Type} (o : Option (α × List Bool)) (k : α → List Bool → Decoded) : Decoded :=
  match o with
  | none => .short
  | some (a, r) => k a r

/-- The command of a 4-bit value (R94). -/
def cmdInstr (v : Nat) : Instr :=
  match v with
  | 0 => .nop
  | 1 => .startCompress
  | 2 => .startDecompress
  | 3 => .cancel
  | 4 => .softReset
  | 5 => .cmdReserved5
  | _ => if v < 8 then .cmdReserved6to7 (BitVec.ofNat 1 v) else .cmdReserved8to15 (BitVec.ofNat 3 v)

/-- Width in bits of a field of `CFG` (R30). -/
def CfgField.width : CfgField → Nat
  | .codec => 3
  | .cksel => 2
  | .treeMode => 2
  | .isLazy => 1
  | .iomode => 1

/-- Position of bit 0 of a field of `CFG` (R30). -/
def CfgField.pos : CfgField → Nat
  | .codec => 0
  | .cksel => 4
  | .treeMode => 8
  | .isLazy => 12
  | .iomode => 13

/-- The element of a field value (R95). -/
def cfgInstr (f : CfgField) (v : Nat) : Instr :=
  match f with
  | .codec =>
    match v with
    | 0 => .cfgCodecDeflate
    | 1 => .cfgCodecZlib
    | 2 => .cfgCodecGzip
    | 3 => .cfgCodecLz4
    | 4 => .cfgCodecSnappy
    | 5 => .cfgCodecZstd
    | _ => .cfgCodecReserved (BitVec.ofNat 1 v)
  | .cksel =>
    match v with
    | 0 => .cfgCkselNone
    | 1 => .cfgCkselCrc32
    | 2 => .cfgCkselAdler32
    | _ => .cfgCkselReserved3
  | .treeMode =>
    match v with
    | 0 => .cfgTreeStored
    | 1 => .cfgTreeFixed
    | 2 => .cfgTreeDynamic
    | _ => .cfgTreeReserved3
  | .isLazy => if v = 0 then .cfgLazy0 else .cfgLazy1
  | .iomode => if v = 0 then .cfgIomodeBuffer else .cfgIomodeStream

/-- The element of a beat (R61): `last` = 0 with `empty` = 1 is no beat. -/
def beatInstr (v : Nat) : Option Instr :=
  match v / 256 with
  | 0 => some (.beatData (BitVec.ofNat 8 v))
  | 1 => some (.beatDataLast (BitVec.ofNat 8 v))
  | 2 => none
  | _ => some .beatEndEmpty

/-- The element of a token word (R92): reserved bits must be 0, and so must the fields the kind does not use. -/
def tokenInstr (v : Nat) : Option Instr :=
  let body := v % 2 ^ 38
  match v / 2 ^ 38 with
  | 0 => if body < 256 then some (.lit (BitVec.ofNat 8 body)) else none
  | 1 =>
    if body < 2 ^ 33 then some (.matchTok (BitVec.ofNat 17 (body / 65536)) (BitVec.ofNat 16 body)) else none
  | 2 => if body = 0 then some .eob else none
  | _ => some (.tokenReserved (BitVec.ofNat 38 body))

/-- The DEFLATE block header `h` of 3 bits (R100). -/
def dflHdrInstr (h : Nat) : Instr :=
  match h / 2 with
  | 0 => .dflBlockStored (h % 2 == 1)
  | 1 => .dflBlockFixed (h % 2 == 1)
  | 2 => .dflBlockDynamic (h % 2 == 1)
  | _ => .dflBlockReserved (h % 2 == 1)

/-- The element of a literal/length symbol and its extra value (R102, R104). -/
def llInstr (s e : Nat) : Option Instr :=
  if s < 256 then some (.llLiteral (BitVec.ofNat 8 s))
  else
    match s with
    | 256 => some .llEob
    | 257 => some .llLen257
    | 258 => some .llLen258
    | 259 => some .llLen259
    | 260 => some .llLen260
    | 261 => some .llLen261
    | 262 => some .llLen262
    | 263 => some .llLen263
    | 264 => some .llLen264
    | 265 => some (.llLen265 (BitVec.ofNat 1 e))
    | 266 => some (.llLen266 (BitVec.ofNat 1 e))
    | 267 => some (.llLen267 (BitVec.ofNat 1 e))
    | 268 => some (.llLen268 (BitVec.ofNat 1 e))
    | 269 => some (.llLen269 (BitVec.ofNat 2 e))
    | 270 => some (.llLen270 (BitVec.ofNat 2 e))
    | 271 => some (.llLen271 (BitVec.ofNat 2 e))
    | 272 => some (.llLen272 (BitVec.ofNat 2 e))
    | 273 => some (.llLen273 (BitVec.ofNat 3 e))
    | 274 => some (.llLen274 (BitVec.ofNat 3 e))
    | 275 => some (.llLen275 (BitVec.ofNat 3 e))
    | 276 => some (.llLen276 (BitVec.ofNat 3 e))
    | 277 => some (.llLen277 (BitVec.ofNat 4 e))
    | 278 => some (.llLen278 (BitVec.ofNat 4 e))
    | 279 => some (.llLen279 (BitVec.ofNat 4 e))
    | 280 => some (.llLen280 (BitVec.ofNat 4 e))
    | 281 => some (.llLen281 (BitVec.ofNat 5 e))
    | 282 => some (.llLen282 (BitVec.ofNat 5 e))
    | 283 => some (.llLen283 (BitVec.ofNat 5 e))
    | 284 => some (.llLen284 (BitVec.ofNat 5 e))
    | 285 => some .llLen285
    | 286 => some (.llIllegal 0)
    | 287 => some (.llIllegal 1)
    | _ => none

/-- The element of a distance symbol and its extra value (R105). -/
def dInstr (s e : Nat) : Option Instr :=
  match s with
  | 0 => some .dDist0
  | 1 => some .dDist1
  | 2 => some .dDist2
  | 3 => some .dDist3
  | 4 => some (.dDist4 (BitVec.ofNat 1 e))
  | 5 => some (.dDist5 (BitVec.ofNat 1 e))
  | 6 => some (.dDist6 (BitVec.ofNat 2 e))
  | 7 => some (.dDist7 (BitVec.ofNat 2 e))
  | 8 => some (.dDist8 (BitVec.ofNat 3 e))
  | 9 => some (.dDist9 (BitVec.ofNat 3 e))
  | 10 => some (.dDist10 (BitVec.ofNat 4 e))
  | 11 => some (.dDist11 (BitVec.ofNat 4 e))
  | 12 => some (.dDist12 (BitVec.ofNat 5 e))
  | 13 => some (.dDist13 (BitVec.ofNat 5 e))
  | 14 => some (.dDist14 (BitVec.ofNat 6 e))
  | 15 => some (.dDist15 (BitVec.ofNat 6 e))
  | 16 => some (.dDist16 (BitVec.ofNat 7 e))
  | 17 => some (.dDist17 (BitVec.ofNat 7 e))
  | 18 => some (.dDist18 (BitVec.ofNat 8 e))
  | 19 => some (.dDist19 (BitVec.ofNat 8 e))
  | 20 => some (.dDist20 (BitVec.ofNat 9 e))
  | 21 => some (.dDist21 (BitVec.ofNat 9 e))
  | 22 => some (.dDist22 (BitVec.ofNat 10 e))
  | 23 => some (.dDist23 (BitVec.ofNat 10 e))
  | 24 => some (.dDist24 (BitVec.ofNat 11 e))
  | 25 => some (.dDist25 (BitVec.ofNat 11 e))
  | 26 => some (.dDist26 (BitVec.ofNat 12 e))
  | 27 => some (.dDist27 (BitVec.ofNat 12 e))
  | 28 => some (.dDist28 (BitVec.ofNat 13 e))
  | 29 => some (.dDist29 (BitVec.ofNat 13 e))
  | 30 => some (.dIllegal 0)
  | 31 => some (.dIllegal 1)
  | _ => none

/-- The element of a code-length symbol and its extra value (R108). -/
def clInstr (s e : Nat) : Option Instr :=
  match s with
  | 0 => some .clLen0
  | 1 => some .clLen1
  | 2 => some .clLen2
  | 3 => some .clLen3
  | 4 => some .clLen4
  | 5 => some .clLen5
  | 6 => some .clLen6
  | 7 => some .clLen7
  | 8 => some .clLen8
  | 9 => some .clLen9
  | 10 => some .clLen10
  | 11 => some .clLen11
  | 12 => some .clLen12
  | 13 => some .clLen13
  | 14 => some .clLen14
  | 15 => some .clLen15
  | 16 => some (.clRepPrev (BitVec.ofNat 2 e))
  | 17 => some (.clRepZeroShort (BitVec.ofNat 3 e))
  | 18 => some (.clRepZeroLong (BitVec.ofNat 7 e))
  | _ => none

/-- Read a symbol, then its extra bits (R263, R260). -/
def decodeSym (t : Tree) (extra : Nat → Nat) (mk : Nat → Nat → Option Instr) (bs : List Bool) : Decoded :=
  match decSym t bs with
  | .short => .short
  | .noCode => .bad .hufNoCode
  | .sym s r =>
    need (takeBits (extra s) r) fun e r' =>
      match mk s e with
      | some i => .ok i r'
      | none => .illegal

/-- Read a code-length symbol (R260): the test of symbol 16 against an empty `Q` comes before its extra bits. -/
def decodeCl (t : Tree) (noPrev : Bool) (bs : List Bool) : Decoded :=
  match decSym t bs with
  | .sym 16 _ => if noPrev then .bad .dflBadRepeat else decodeSym t clExtra clInstr bs
  | _ => decodeSym t clExtra clInstr bs

/-- `n` code-length-code lengths of 3 bits (R107, R259). -/
def takeLens : Nat → List Bool → Option (List (BitVec 3) × List Bool)
  | 0, bs => some ([], bs)
  | n + 1, bs =>
    match takeBits 3 bs with
    | none => none
    | some (v, r) =>
      match takeLens n r with
      | none => none
      | some (vs, r') => some (BitVec.ofNat 3 v :: vs, r')

/-- Bytes up to a zero byte, which is taken and left out (R113); `fuel` bytes at most. -/
def takeZString : Nat → List Bool → Option (List Byte × List Bool)
  | 0, _ => none
  | fuel + 1, bs =>
    match takeByte bs with
    | none => none
    | some (b, r) =>
      if b = 0#8 then some ([], r)
      else
        match takeZString fuel r with
        | none => none
        | some (s, r') => some (b :: s, r')

/-- Read a part when its flag is set. -/
def takeIf {α : Type} (flag : Bool) (f : List Bool → Option (α × List Bool)) (bs : List Bool) :
    Option (Option α × List Bool) :=
  if flag then
    match f bs with
    | none => none
    | some (a, r) => some (some a, r)
  else some (none, bs)

/-- `n` bytes as one number, least significant byte first (R65). -/
def takeLe (n : Nat) (bs : List Bool) : Option (Nat × List Bool) :=
  match takeBytes n bs with
  | none => none
  | some (s, r) => some (leNat s, r)

/-- `FEXTRA`: two bytes of length, then that many bytes (R113). -/
def takeExtra (bs : List Bool) : Option (List Byte × List Bool) :=
  match takeLe 2 bs with
  | none => none
  | some (n, r) => takeBytes n r

/-- `n` bytes as a value of `w` bits, least significant byte first. -/
def takeLeBits (w n : Nat) (bs : List Bool) : Option (BitVec w × List Bool) :=
  match takeLe n bs with
  | none => none
  | some (v, r) => some (BitVec.ofNat w v, r)

/-- The stored block body (R101, R257): the padding is not examined. -/
def decodeStored (pad : Nat) (bs : List Bool) : Decoded :=
  need (takeLeBits 16 2 (bs.drop pad)) fun len r =>
  need (takeLeBits 16 2 r) fun nlen r =>
    if nlen = ~~~len then need (takeBytes len.toNat r) fun data r => .ok (.dflStoredBody len nlen data) r
    else .ok (.dflStoredBody len nlen []) r

/-- The dynamic block header up to the code-length-code lengths (R107, R258, R259). -/
def decodeDyn (bs : List Bool) : Decoded :=
  need (takeBits 5 bs) fun hlit r =>
  need (takeBits 5 r) fun hdist r =>
  need (takeBits 4 r) fun hclen r =>
    if dynCountsBad (BitVec.ofNat 5 hlit) (BitVec.ofNat 5 hdist) then
      .ok (.dflDynHeader (BitVec.ofNat 5 hlit) (BitVec.ofNat 5 hdist) (BitVec.ofNat 4 hclen) []) r
    else
      need (takeLens (hclen + 4) r) fun cl r =>
        .ok (.dflDynHeader (BitVec.ofNat 5 hlit) (BitVec.ofNat 5 hdist) (BitVec.ofNat 4 hclen) cl) r

/-- The GZIP header (R112, R113, R288). -/
def decodeGzip (bs : List Bool) : Decoded :=
  need (takeByte bs) fun id1 r =>
  need (takeByte r) fun id2 r =>
  need (takeByte r) fun cm r =>
  need (takeByte r) fun flg r =>
  need (takeLeBits 32 4 r) fun mtime r =>
  need (takeByte r) fun xfl r =>
  need (takeByte r) fun os r =>
    if (gzipFixedDefect id1 id2 cm flg).isSome then
      .ok (.gzipHeader id1 id2 cm flg mtime xfl os none none none none) r
    else
      need (takeIf (flg.getLsbD 2) takeExtra r) fun extra r =>
      need (takeIf (flg.getLsbD 3) (fun b => takeZString (wholeBytes b + 1) b) r) fun name r =>
      need (takeIf (flg.getLsbD 4) (fun b => takeZString (wholeBytes b + 1) b) r) fun comment r =>
      need (takeIf (flg.getLsbD 1) (takeLeBits 16 2) r) fun crc16 r =>
        .ok (.gzipHeader id1 id2 cm flg mtime xfl os extra name comment crc16) r

/-- The GZIP trailer: `ISIZE` is read only where the CRC agrees (R289). -/
def decodeGzipTrl (crc : Word) (bs : List Bool) : Decoded :=
  need (takeLeBits 32 4 bs) fun c r =>
    if c = crc then need (takeLeBits 32 4 r) fun n r => .ok (.gzipTrailer c (some n)) r
    else .ok (.gzipTrailer c none) r

/-- The LZ4 magic (R321). -/
def decodeMagic (bs : List Bool) : Decoded :=
  need (takeLeBits 32 4 bs) fun m r =>
    if m = lz4MagicWord then .ok .lz4Magic r
    else if m.toNat / 16 = lz4SkipWord.toNat / 16 then .ok (.lz4MagicSkippable (m.setWidth 4)) r
    else if m = lz4LegacyWord then .bad .lz4Skippable
    else .bad .lz4BadMagic

/-- The LZ4 frame descriptor (R322). -/
def decodeDesc (bs : List Bool) : Decoded :=
  need (takeByte bs) fun flg r =>
    if (lz4FlgDefect flg).isSome then .ok (.lz4Descriptor flg none none none none) r
    else
      need (takeByte r) fun bd r =>
        if (lz4BdDefect bd).isSome then .ok (.lz4Descriptor flg (some bd) none none none) r
        else
          need (takeIf (flg.getLsbD 3) (takeLeBits 64 8) r) fun csize r =>
          need (takeIf (flg.getLsbD 0) (takeLeBits 32 4) r) fun dict r =>
          need (takeByte r) fun hc r =>
            .ok (.lz4Descriptor flg (some bd) csize dict (some hc)) r

/-- The two forms of an LZ4 data block (R116). -/
def blockInstr (stored : Bool) (size : BitVec 31) (data : List Byte) (ck : Option Word) : Instr :=
  if stored then .lz4BlockStored size data ck else .lz4BlockCompressed size data ck

/-- An LZ4 data block or the end mark (R116, R324). -/
def decodeBlk (blkmax : Nat) (blockCk : Bool) (bs : List Bool) : Decoded :=
  need (takeLeBits 32 4 bs) fun v r =>
    if v = 0#32 then .ok .lz4Endmark r
    else if blkmax < (v.setWidth 31).toNat then
      .ok (blockInstr (v.getLsbD 31) (v.setWidth 31) [] none) r
    else
      need (takeBytes (v.setWidth 31).toNat r) fun data r =>
      need (takeIf blockCk (takeLeBits 32 4) r) fun ck r =>
        .ok (blockInstr (v.getLsbD 31) (v.setWidth 31) data ck) r

/-- The bytes of a source that is a whole number of bytes. -/
def sourceBytes (bs : List Bool) : List Byte :=
  match takeBytes (wholeBytes bs) bs with
  | none => []
  | some (s, _) => s

/-- A sequence of an LZ4 block on the bytes of its data (R325, R326): running out of bytes is `LZ4_BAD_SEQ`, but the
literals before an offset or escape that is cut short are tested first, so such a sequence is an element without a
match part. -/
def decodeSeqBytes (s : List Byte) : Decoded :=
  match s with
  | [] => .bad .lz4BadSeq
  | t :: s =>
    match lz4ReadLen (t.toNat / 16) s with
    | none => .bad .lz4BadSeq
    | some (ll, s) =>
      if s.length < ll then .bad .lz4BadSeq
      else
        match s.drop ll with
        | [] => .ok (.lz4LastSequence (s.take ll)) []
        | [_] => .ok (.lz4Sequence (s.take ll) none) []
        | o0 :: o1 :: s' =>
          match lz4ReadLen (t.toNat % 16) s' with
          | none => .ok (.lz4Sequence (s.take ll) none) []
          | some (m, rest) =>
            .ok (.lz4Sequence (s.take ll) (some (BitVec.ofNat 16 (leNat [o0, o1]), m))) (bitsOfBytes rest)

/-- The bytes of a Snappy preamble from index `k` on (R358). -/
def takeVarint : Nat → Nat → List Bool → Option (List Byte × List Bool)
  | 0, _, _ => none
  | fuel + 1, k, bs =>
    match takeByte bs with
    | none => none
    | some (b, r) =>
      if varintStops k b then some ([b], r)
      else
        match takeVarint fuel (k + 1) r with
        | none => none
        | some (s, r') => some (b :: s, r')

/-- A Snappy element by its tag byte (R360, R361). The bytes of a literal that would pass the declared length are not
taken. -/
def decodeTag (room : Nat) (bs : List Bool) : Decoded :=
  need (takeByte bs) fun t r =>
    match t.toNat % 4 with
    | 0 =>
      need (takeBytes (snpExtLen (BitVec.ofNat 6 (t.toNat / 4))) r) fun ext r =>
        if room < snpLitLen (BitVec.ofNat 6 (t.toNat / 4)) ext then
          .ok (.snpLiteral (BitVec.ofNat 6 (t.toNat / 4)) ext []) r
        else
          need (takeBytes (snpLitLen (BitVec.ofNat 6 (t.toNat / 4)) ext) r) fun data r =>
            .ok (.snpLiteral (BitVec.ofNat 6 (t.toNat / 4)) ext data) r
    | 1 =>
      need (takeByte r) fun o r =>
        .ok (.snpCopy1 (BitVec.ofNat 3 (t.toNat / 4)) (BitVec.ofNat 11 (t.toNat / 32 * 256 + o.toNat))) r
    | 2 =>
      need (takeLe 2 r) fun o r => .ok (.snpCopy2 (BitVec.ofNat 6 (t.toNat / 4)) (BitVec.ofNat 16 o)) r
    | _ =>
      need (takeLe 4 r) fun o r => .ok (.snpCopy4 (BitVec.ofNat 6 (t.toNat / 4)) (BitVec.ofNat 32 o)) r

/-- Read one element. -/
def decode (c : Ctx) (bs : List Bool) : Decoded :=
  match c with
  | .cmd => need (takeBits 4 bs) fun v r => .ok (cmdInstr v) r
  | .cfg f => need (takeBits f.width bs) fun v r => .ok (cfgInstr f v) r
  | .beat =>
    need (takeBits 10 bs) fun v r =>
      match beatInstr v with
      | some i => .ok i r
      | none => .illegal
  | .token =>
    need (takeBits 40 bs) fun v r =>
      match tokenInstr v with
      | some i => .ok i r
      | none => .illegal
  | .dflHdr => need (takeBits 3 bs) fun h r => .ok (dflHdrInstr h) r
  | .dflStored pad => decodeStored pad bs
  | .dflDyn => decodeDyn bs
  | .llSym t => decodeSym t lenExtra llInstr bs
  | .dSym t => decodeSym t distExtra dInstr bs
  | .clSym t noPrev => decodeCl t noPrev bs
  | .zlibHdr =>
    need (takeByte bs) fun cmf r =>
    need (takeByte r) fun flg r => .ok (.zlibHeader cmf flg) r
  | .zlibTrl => need (takeBytes 4 bs) fun s r => .ok (.zlibTrailer (BitVec.ofNat 32 (beNat s))) r
  | .gzipHdr => decodeGzip bs
  | .gzipTrl crc => decodeGzipTrl crc bs
  | .lz4Magic => decodeMagic bs
  | .lz4Desc => decodeDesc bs
  | .lz4Blk m ck => decodeBlk m ck bs
  | .lz4Content => need (takeLeBits 32 4 bs) fun v r => .ok (.lz4ContentChecksum v) r
  | .lz4Seq => decodeSeqBytes (sourceBytes bs)
  | .snpPre => need (takeVarint 5 0 bs) fun s r => .ok (.snpPreamble s) r
  | .snpTag room => decodeTag room bs

/-- The trees of a context; a tree without codes where it has none. -/
def Ctx.tree (c : Ctx) : Tree :=
  match c with
  | .llSym t => t
  | .dSym t => t
  | .clSym t _ => t
  | _ => { lens := [], codes := [] }

/-- A symbol's code and its extra bits (R210, R70). -/
def encSym (c : Ctx) (s e k : Nat) : List Bool := symBits c.tree s ++ natBits k e

/-- The bits of an optional part. -/
def encOpt {α : Type} (f : α → List Byte) (o : Option α) : List Bool :=
  match o with
  | none => []
  | some a => bitsOfBytes (f a)

/-- The bits of an LZ4 data block (R116). -/
def encBlk (stored : Bool) (size : BitVec 31) (data : List Byte) (ck : Option Word) : List Bool :=
  bitsOfBytes (leBytes 4 ((if stored then 2147483648 else 0) + size.toNat)) ++ bitsOfBytes data ++
    encOpt (fun w => leBytes 4 w.toNat) ck

/-- The padding a context puts before an element: zeros up to the byte boundary of a stored block body (R101, R67). -/
def Ctx.padding (c : Ctx) : List Bool :=
  match c with
  | .dflStored pad => List.replicate pad false
  | _ => []

/-- The bits of an element where the context reads it. -/
def encode (c : Ctx) (i : Instr) : List Bool :=
  match i with
  | .nop => natBits 4 0
  | .startCompress => natBits 4 1
  | .startDecompress => natBits 4 2
  | .cancel => natBits 4 3
  | .softReset => natBits 4 4
  | .cmdReserved5 => natBits 4 5
  | .cmdReserved6to7 lo => natBits 4 (6 + lo.toNat)
  | .cmdReserved8to15 lo => natBits 4 (8 + lo.toNat)
  | .cfgCodecDeflate => natBits 3 0
  | .cfgCodecZlib => natBits 3 1
  | .cfgCodecGzip => natBits 3 2
  | .cfgCodecLz4 => natBits 3 3
  | .cfgCodecSnappy => natBits 3 4
  | .cfgCodecZstd => natBits 3 5
  | .cfgCodecReserved lo => natBits 3 (6 + lo.toNat)
  | .cfgCkselNone => natBits 2 0
  | .cfgCkselCrc32 => natBits 2 1
  | .cfgCkselAdler32 => natBits 2 2
  | .cfgCkselReserved3 => natBits 2 3
  | .cfgTreeStored => natBits 2 0
  | .cfgTreeFixed => natBits 2 1
  | .cfgTreeDynamic => natBits 2 2
  | .cfgTreeReserved3 => natBits 2 3
  | .cfgLazy0 => natBits 1 0
  | .cfgLazy1 => natBits 1 1
  | .cfgIomodeBuffer => natBits 1 0
  | .cfgIomodeStream => natBits 1 1
  | .beatData b => natBits 10 b.toNat
  | .beatDataLast b => natBits 10 (256 + b.toNat)
  | .beatEndEmpty => natBits 10 768
  | .lit b => natBits 40 (tokenWord 0 0 b.toNat).toNat
  | .matchTok off len => natBits 40 (tokenWord 1 off.toNat len.toNat).toNat
  | .eob => natBits 40 (tokenWord 2 0 0).toNat
  | .tokenReserved x => natBits 40 (3 * 2 ^ 38 + x.toNat)
  | .dflBlockStored f => natBits 3 f.toNat
  | .dflBlockFixed f => natBits 3 (2 + f.toNat)
  | .dflBlockDynamic f => natBits 3 (4 + f.toNat)
  | .dflBlockReserved f => natBits 3 (6 + f.toNat)
  | .dflStoredBody len nlen data =>
    c.padding ++ bitsOfBytes (leBytes 2 len.toNat) ++ bitsOfBytes (leBytes 2 nlen.toNat) ++ bitsOfBytes data
  | .dflDynHeader hlit hdist hclen cl =>
    natBits 5 hlit.toNat ++ natBits 5 hdist.toNat ++ natBits 4 hclen.toNat ++
      cl.flatMap (fun v => natBits 3 v.toNat)
  | .llLiteral b => encSym c b.toNat 0 0
  | .llEob => encSym c 256 0 0
  | .llLen257 => encSym c 257 0 0
  | .llLen258 => encSym c 258 0 0
  | .llLen259 => encSym c 259 0 0
  | .llLen260 => encSym c 260 0 0
  | .llLen261 => encSym c 261 0 0
  | .llLen262 => encSym c 262 0 0
  | .llLen263 => encSym c 263 0 0
  | .llLen264 => encSym c 264 0 0
  | .llLen265 e => encSym c 265 e.toNat 1
  | .llLen266 e => encSym c 266 e.toNat 1
  | .llLen267 e => encSym c 267 e.toNat 1
  | .llLen268 e => encSym c 268 e.toNat 1
  | .llLen269 e => encSym c 269 e.toNat 2
  | .llLen270 e => encSym c 270 e.toNat 2
  | .llLen271 e => encSym c 271 e.toNat 2
  | .llLen272 e => encSym c 272 e.toNat 2
  | .llLen273 e => encSym c 273 e.toNat 3
  | .llLen274 e => encSym c 274 e.toNat 3
  | .llLen275 e => encSym c 275 e.toNat 3
  | .llLen276 e => encSym c 276 e.toNat 3
  | .llLen277 e => encSym c 277 e.toNat 4
  | .llLen278 e => encSym c 278 e.toNat 4
  | .llLen279 e => encSym c 279 e.toNat 4
  | .llLen280 e => encSym c 280 e.toNat 4
  | .llLen281 e => encSym c 281 e.toNat 5
  | .llLen282 e => encSym c 282 e.toNat 5
  | .llLen283 e => encSym c 283 e.toNat 5
  | .llLen284 e => encSym c 284 e.toNat 5
  | .llLen285 => encSym c 285 0 0
  | .llIllegal lo => encSym c (286 + lo.toNat) 0 0
  | .dDist0 => encSym c 0 0 0
  | .dDist1 => encSym c 1 0 0
  | .dDist2 => encSym c 2 0 0
  | .dDist3 => encSym c 3 0 0
  | .dDist4 e => encSym c 4 e.toNat 1
  | .dDist5 e => encSym c 5 e.toNat 1
  | .dDist6 e => encSym c 6 e.toNat 2
  | .dDist7 e => encSym c 7 e.toNat 2
  | .dDist8 e => encSym c 8 e.toNat 3
  | .dDist9 e => encSym c 9 e.toNat 3
  | .dDist10 e => encSym c 10 e.toNat 4
  | .dDist11 e => encSym c 11 e.toNat 4
  | .dDist12 e => encSym c 12 e.toNat 5
  | .dDist13 e => encSym c 13 e.toNat 5
  | .dDist14 e => encSym c 14 e.toNat 6
  | .dDist15 e => encSym c 15 e.toNat 6
  | .dDist16 e => encSym c 16 e.toNat 7
  | .dDist17 e => encSym c 17 e.toNat 7
  | .dDist18 e => encSym c 18 e.toNat 8
  | .dDist19 e => encSym c 19 e.toNat 8
  | .dDist20 e => encSym c 20 e.toNat 9
  | .dDist21 e => encSym c 21 e.toNat 9
  | .dDist22 e => encSym c 22 e.toNat 10
  | .dDist23 e => encSym c 23 e.toNat 10
  | .dDist24 e => encSym c 24 e.toNat 11
  | .dDist25 e => encSym c 25 e.toNat 11
  | .dDist26 e => encSym c 26 e.toNat 12
  | .dDist27 e => encSym c 27 e.toNat 12
  | .dDist28 e => encSym c 28 e.toNat 13
  | .dDist29 e => encSym c 29 e.toNat 13
  | .dIllegal lo => encSym c (30 + lo.toNat) 0 0
  | .clLen0 => encSym c 0 0 0
  | .clLen1 => encSym c 1 0 0
  | .clLen2 => encSym c 2 0 0
  | .clLen3 => encSym c 3 0 0
  | .clLen4 => encSym c 4 0 0
  | .clLen5 => encSym c 5 0 0
  | .clLen6 => encSym c 6 0 0
  | .clLen7 => encSym c 7 0 0
  | .clLen8 => encSym c 8 0 0
  | .clLen9 => encSym c 9 0 0
  | .clLen10 => encSym c 10 0 0
  | .clLen11 => encSym c 11 0 0
  | .clLen12 => encSym c 12 0 0
  | .clLen13 => encSym c 13 0 0
  | .clLen14 => encSym c 14 0 0
  | .clLen15 => encSym c 15 0 0
  | .clRepPrev e => encSym c 16 e.toNat 2
  | .clRepZeroShort e => encSym c 17 e.toNat 3
  | .clRepZeroLong e => encSym c 18 e.toNat 7
  | .zlibHeader cmf flg => bitsOfBytes [cmf, flg]
  | .zlibTrailer v => bitsOfBytes (beBytes 4 v.toNat)
  | .gzipHeader id1 id2 cm flg mtime xfl os extra name comment crc16 =>
    bitsOfBytes [id1, id2, cm, flg] ++ bitsOfBytes (leBytes 4 mtime.toNat) ++ bitsOfBytes [xfl, os] ++
      encOpt (fun s => leBytes 2 s.length ++ s) extra ++ encOpt (fun s => s ++ [0]) name ++
      encOpt (fun s => s ++ [0]) comment ++ encOpt (fun w => leBytes 2 w.toNat) crc16
  | .gzipTrailer crc isize =>
    bitsOfBytes (leBytes 4 crc.toNat) ++ encOpt (fun w => leBytes 4 w.toNat) isize
  | .lz4Magic => bitsOfBytes (leBytes 4 lz4MagicWord.toNat)
  | .lz4MagicSkippable lo => bitsOfBytes (leBytes 4 (lz4SkipWord.toNat + lo.toNat))
  | .lz4Descriptor flg bd csize dict hc =>
    bitsOfBytes [flg] ++ encOpt (fun b => [b]) bd ++ encOpt (fun w => leBytes 8 w.toNat) csize ++
      encOpt (fun w => leBytes 4 w.toNat) dict ++ encOpt (fun b => [b]) hc
  | .lz4BlockCompressed size data ck => encBlk false size data ck
  | .lz4BlockStored size data ck => encBlk true size data ck
  | .lz4Endmark => bitsOfBytes (leBytes 4 0)
  | .lz4ContentChecksum v => bitsOfBytes (leBytes 4 v.toNat)
  | .lz4Sequence lits mat => bitsOfBytes (lz4SeqBytes lits (mat.map (fun p => (p.1.toNat, p.2))))
  | .lz4LastSequence lits => bitsOfBytes (lz4SeqBytes lits none)
  | .snpPreamble bs => bitsOfBytes bs
  | .snpLiteral m ext data => bitsOfBytes (BitVec.ofNat 8 (m.toNat * 4) :: (ext ++ data))
  | .snpCopy1 len3 off =>
    bitsOfBytes [BitVec.ofNat 8 (off.toNat / 256 * 32 + len3.toNat * 4 + 1), BitVec.ofNat 8 off.toNat]
  | .snpCopy2 len6 off => bitsOfBytes (BitVec.ofNat 8 (len6.toNat * 4 + 2) :: leBytes 2 off.toNat)
  | .snpCopy4 len6 off => bitsOfBytes (BitVec.ofNat 8 (len6.toNat * 4 + 3) :: leBytes 4 off.toNat)

/-- The formats of R90, as the opcode table names them. -/
inductive Format where
  /-- `CMD`. -/
  | cmdFmt
  /-- `CFG`. -/
  | cfgFmt
  /-- `BEAT`. -/
  | beatFmt
  /-- `TOKEN`. -/
  | tokenFmt
  /-- `DFL_HDR`. -/
  | dflHdrFmt
  /-- `DFL_STORED`. -/
  | dflStoredFmt
  /-- `DFL_DYN`. -/
  | dflDynFmt
  /-- `LL_SYM`. -/
  | llSymFmt
  /-- `D_SYM`. -/
  | dSymFmt
  /-- `CL_SYM`. -/
  | clSymFmt
  /-- `ZLIB_HDR`. -/
  | zlibHdrFmt
  /-- `ZLIB_TRL`. -/
  | zlibTrlFmt
  /-- `GZIP_HDR`. -/
  | gzipHdrFmt
  /-- `GZIP_TRL`. -/
  | gzipTrlFmt
  /-- `LZ4_FRAME`. -/
  | lz4FrameFmt
  /-- `LZ4_BLK`. -/
  | lz4BlkFmt
  /-- `LZ4_SEQ`. -/
  | lz4SeqFmt
  /-- `SNP_PRE`. -/
  | snpPreFmt
  /-- `SNP_TAG`. -/
  | snpTagFmt
  deriving DecidableEq, Repr

/-- The format of an element: its row's `format` in the opcode table (R90). -/
def Instr.format (i : Instr) : Format :=
  match i with
  | .nop => .cmdFmt
  | .startCompress => .cmdFmt
  | .startDecompress => .cmdFmt
  | .cancel => .cmdFmt
  | .softReset => .cmdFmt
  | .cmdReserved5 => .cmdFmt
  | .cmdReserved6to7 _ => .cmdFmt
  | .cmdReserved8to15 _ => .cmdFmt
  | .cfgCodecDeflate => .cfgFmt
  | .cfgCodecZlib => .cfgFmt
  | .cfgCodecGzip => .cfgFmt
  | .cfgCodecLz4 => .cfgFmt
  | .cfgCodecSnappy => .cfgFmt
  | .cfgCodecZstd => .cfgFmt
  | .cfgCodecReserved _ => .cfgFmt
  | .cfgCkselNone => .cfgFmt
  | .cfgCkselCrc32 => .cfgFmt
  | .cfgCkselAdler32 => .cfgFmt
  | .cfgCkselReserved3 => .cfgFmt
  | .cfgTreeStored => .cfgFmt
  | .cfgTreeFixed => .cfgFmt
  | .cfgTreeDynamic => .cfgFmt
  | .cfgTreeReserved3 => .cfgFmt
  | .cfgLazy0 => .cfgFmt
  | .cfgLazy1 => .cfgFmt
  | .cfgIomodeBuffer => .cfgFmt
  | .cfgIomodeStream => .cfgFmt
  | .beatData _ => .beatFmt
  | .beatDataLast _ => .beatFmt
  | .beatEndEmpty => .beatFmt
  | .lit _ => .tokenFmt
  | .matchTok _ _ => .tokenFmt
  | .eob => .tokenFmt
  | .tokenReserved _ => .tokenFmt
  | .dflBlockStored _ => .dflHdrFmt
  | .dflBlockFixed _ => .dflHdrFmt
  | .dflBlockDynamic _ => .dflHdrFmt
  | .dflBlockReserved _ => .dflHdrFmt
  | .dflStoredBody _ _ _ => .dflStoredFmt
  | .dflDynHeader _ _ _ _ => .dflDynFmt
  | .llLiteral _ => .llSymFmt
  | .llEob => .llSymFmt
  | .llLen257 => .llSymFmt
  | .llLen258 => .llSymFmt
  | .llLen259 => .llSymFmt
  | .llLen260 => .llSymFmt
  | .llLen261 => .llSymFmt
  | .llLen262 => .llSymFmt
  | .llLen263 => .llSymFmt
  | .llLen264 => .llSymFmt
  | .llLen265 _ => .llSymFmt
  | .llLen266 _ => .llSymFmt
  | .llLen267 _ => .llSymFmt
  | .llLen268 _ => .llSymFmt
  | .llLen269 _ => .llSymFmt
  | .llLen270 _ => .llSymFmt
  | .llLen271 _ => .llSymFmt
  | .llLen272 _ => .llSymFmt
  | .llLen273 _ => .llSymFmt
  | .llLen274 _ => .llSymFmt
  | .llLen275 _ => .llSymFmt
  | .llLen276 _ => .llSymFmt
  | .llLen277 _ => .llSymFmt
  | .llLen278 _ => .llSymFmt
  | .llLen279 _ => .llSymFmt
  | .llLen280 _ => .llSymFmt
  | .llLen281 _ => .llSymFmt
  | .llLen282 _ => .llSymFmt
  | .llLen283 _ => .llSymFmt
  | .llLen284 _ => .llSymFmt
  | .llLen285 => .llSymFmt
  | .llIllegal _ => .llSymFmt
  | .dDist0 => .dSymFmt
  | .dDist1 => .dSymFmt
  | .dDist2 => .dSymFmt
  | .dDist3 => .dSymFmt
  | .dDist4 _ => .dSymFmt
  | .dDist5 _ => .dSymFmt
  | .dDist6 _ => .dSymFmt
  | .dDist7 _ => .dSymFmt
  | .dDist8 _ => .dSymFmt
  | .dDist9 _ => .dSymFmt
  | .dDist10 _ => .dSymFmt
  | .dDist11 _ => .dSymFmt
  | .dDist12 _ => .dSymFmt
  | .dDist13 _ => .dSymFmt
  | .dDist14 _ => .dSymFmt
  | .dDist15 _ => .dSymFmt
  | .dDist16 _ => .dSymFmt
  | .dDist17 _ => .dSymFmt
  | .dDist18 _ => .dSymFmt
  | .dDist19 _ => .dSymFmt
  | .dDist20 _ => .dSymFmt
  | .dDist21 _ => .dSymFmt
  | .dDist22 _ => .dSymFmt
  | .dDist23 _ => .dSymFmt
  | .dDist24 _ => .dSymFmt
  | .dDist25 _ => .dSymFmt
  | .dDist26 _ => .dSymFmt
  | .dDist27 _ => .dSymFmt
  | .dDist28 _ => .dSymFmt
  | .dDist29 _ => .dSymFmt
  | .dIllegal _ => .dSymFmt
  | .clLen0 => .clSymFmt
  | .clLen1 => .clSymFmt
  | .clLen2 => .clSymFmt
  | .clLen3 => .clSymFmt
  | .clLen4 => .clSymFmt
  | .clLen5 => .clSymFmt
  | .clLen6 => .clSymFmt
  | .clLen7 => .clSymFmt
  | .clLen8 => .clSymFmt
  | .clLen9 => .clSymFmt
  | .clLen10 => .clSymFmt
  | .clLen11 => .clSymFmt
  | .clLen12 => .clSymFmt
  | .clLen13 => .clSymFmt
  | .clLen14 => .clSymFmt
  | .clLen15 => .clSymFmt
  | .clRepPrev _ => .clSymFmt
  | .clRepZeroShort _ => .clSymFmt
  | .clRepZeroLong _ => .clSymFmt
  | .zlibHeader _ _ => .zlibHdrFmt
  | .zlibTrailer _ => .zlibTrlFmt
  | .gzipHeader _ _ _ _ _ _ _ _ _ _ _ => .gzipHdrFmt
  | .gzipTrailer _ _ => .gzipTrlFmt
  | .lz4Magic => .lz4FrameFmt
  | .lz4MagicSkippable _ => .lz4FrameFmt
  | .lz4Descriptor _ _ _ _ _ => .lz4FrameFmt
  | .lz4BlockCompressed _ _ _ => .lz4BlkFmt
  | .lz4BlockStored _ _ _ => .lz4BlkFmt
  | .lz4Endmark => .lz4BlkFmt
  | .lz4ContentChecksum _ => .lz4BlkFmt
  | .lz4Sequence _ _ => .lz4SeqFmt
  | .lz4LastSequence _ => .lz4SeqFmt
  | .snpPreamble _ => .snpPreFmt
  | .snpLiteral _ _ _ => .snpTagFmt
  | .snpCopy1 _ _ => .snpTagFmt
  | .snpCopy2 _ _ => .snpTagFmt
  | .snpCopy4 _ _ => .snpTagFmt

/-- The byte-granular formats: every element is a whole number of bytes; DEFLATE elements are bit-granular (R90). -/
def Format.byteGranular (f : Format) : Bool :=
  match f with
  | .cmdFmt => false
  | .cfgFmt => false
  | .beatFmt => false
  | .tokenFmt => false
  | .dflHdrFmt => false
  | .dflStoredFmt => false
  | .dflDynFmt => false
  | .llSymFmt => false
  | .dSymFmt => false
  | .clSymFmt => false
  | .zlibHdrFmt => true
  | .zlibTrlFmt => true
  | .gzipHdrFmt => true
  | .gzipTrlFmt => true
  | .lz4FrameFmt => true
  | .lz4BlkFmt => true
  | .lz4SeqFmt => true
  | .snpPreFmt => true
  | .snpTagFmt => true

/-- The format a context reads. -/
def Ctx.format (c : Ctx) : Format :=
  match c with
  | .cmd => .cmdFmt
  | .cfg _ => .cfgFmt
  | .beat => .beatFmt
  | .token => .tokenFmt
  | .dflHdr => .dflHdrFmt
  | .dflStored _ => .dflStoredFmt
  | .dflDyn => .dflDynFmt
  | .llSym _ => .llSymFmt
  | .dSym _ => .dSymFmt
  | .clSym _ _ => .clSymFmt
  | .zlibHdr => .zlibHdrFmt
  | .zlibTrl => .zlibTrlFmt
  | .gzipHdr => .gzipHdrFmt
  | .gzipTrl _ => .gzipTrlFmt
  | .lz4Magic => .lz4FrameFmt
  | .lz4Desc => .lz4FrameFmt
  | .lz4Blk _ _ => .lz4BlkFmt
  | .lz4Content => .lz4BlkFmt
  | .lz4Seq => .lz4SeqFmt
  | .snpPre => .snpPreFmt
  | .snpTag _ => .snpTagFmt

/-- The symbol number of an element of the three alphabets (R102, R105, R108); 0 for every other element. -/
def Instr.symbol (i : Instr) : Nat :=
  match i with
  | .nop => 0
  | .startCompress => 0
  | .startDecompress => 0
  | .cancel => 0
  | .softReset => 0
  | .cmdReserved5 => 0
  | .cmdReserved6to7 _ => 0
  | .cmdReserved8to15 _ => 0
  | .cfgCodecDeflate => 0
  | .cfgCodecZlib => 0
  | .cfgCodecGzip => 0
  | .cfgCodecLz4 => 0
  | .cfgCodecSnappy => 0
  | .cfgCodecZstd => 0
  | .cfgCodecReserved _ => 0
  | .cfgCkselNone => 0
  | .cfgCkselCrc32 => 0
  | .cfgCkselAdler32 => 0
  | .cfgCkselReserved3 => 0
  | .cfgTreeStored => 0
  | .cfgTreeFixed => 0
  | .cfgTreeDynamic => 0
  | .cfgTreeReserved3 => 0
  | .cfgLazy0 => 0
  | .cfgLazy1 => 0
  | .cfgIomodeBuffer => 0
  | .cfgIomodeStream => 0
  | .beatData _ => 0
  | .beatDataLast _ => 0
  | .beatEndEmpty => 0
  | .lit _ => 0
  | .matchTok _ _ => 0
  | .eob => 0
  | .tokenReserved _ => 0
  | .dflBlockStored _ => 0
  | .dflBlockFixed _ => 0
  | .dflBlockDynamic _ => 0
  | .dflBlockReserved _ => 0
  | .dflStoredBody _ _ _ => 0
  | .dflDynHeader _ _ _ _ => 0
  | .llLiteral b => b.toNat
  | .llEob => 256
  | .llLen257 => 257
  | .llLen258 => 258
  | .llLen259 => 259
  | .llLen260 => 260
  | .llLen261 => 261
  | .llLen262 => 262
  | .llLen263 => 263
  | .llLen264 => 264
  | .llLen265 _ => 265
  | .llLen266 _ => 266
  | .llLen267 _ => 267
  | .llLen268 _ => 268
  | .llLen269 _ => 269
  | .llLen270 _ => 270
  | .llLen271 _ => 271
  | .llLen272 _ => 272
  | .llLen273 _ => 273
  | .llLen274 _ => 274
  | .llLen275 _ => 275
  | .llLen276 _ => 276
  | .llLen277 _ => 277
  | .llLen278 _ => 278
  | .llLen279 _ => 279
  | .llLen280 _ => 280
  | .llLen281 _ => 281
  | .llLen282 _ => 282
  | .llLen283 _ => 283
  | .llLen284 _ => 284
  | .llLen285 => 285
  | .llIllegal lo => 286 + lo.toNat
  | .dDist0 => 0
  | .dDist1 => 1
  | .dDist2 => 2
  | .dDist3 => 3
  | .dDist4 _ => 4
  | .dDist5 _ => 5
  | .dDist6 _ => 6
  | .dDist7 _ => 7
  | .dDist8 _ => 8
  | .dDist9 _ => 9
  | .dDist10 _ => 10
  | .dDist11 _ => 11
  | .dDist12 _ => 12
  | .dDist13 _ => 13
  | .dDist14 _ => 14
  | .dDist15 _ => 15
  | .dDist16 _ => 16
  | .dDist17 _ => 17
  | .dDist18 _ => 18
  | .dDist19 _ => 19
  | .dDist20 _ => 20
  | .dDist21 _ => 21
  | .dDist22 _ => 22
  | .dDist23 _ => 23
  | .dDist24 _ => 24
  | .dDist25 _ => 25
  | .dDist26 _ => 26
  | .dDist27 _ => 27
  | .dDist28 _ => 28
  | .dDist29 _ => 29
  | .dIllegal lo => 30 + lo.toNat
  | .clLen0 => 0
  | .clLen1 => 1
  | .clLen2 => 2
  | .clLen3 => 3
  | .clLen4 => 4
  | .clLen5 => 5
  | .clLen6 => 6
  | .clLen7 => 7
  | .clLen8 => 8
  | .clLen9 => 9
  | .clLen10 => 10
  | .clLen11 => 11
  | .clLen12 => 12
  | .clLen13 => 13
  | .clLen14 => 14
  | .clLen15 => 15
  | .clRepPrev _ => 16
  | .clRepZeroShort _ => 17
  | .clRepZeroLong _ => 18
  | .zlibHeader _ _ => 0
  | .zlibTrailer _ => 0
  | .gzipHeader _ _ _ _ _ _ _ _ _ _ _ => 0
  | .gzipTrailer _ _ => 0
  | .lz4Magic => 0
  | .lz4MagicSkippable _ => 0
  | .lz4Descriptor _ _ _ _ _ => 0
  | .lz4BlockCompressed _ _ _ => 0
  | .lz4BlockStored _ _ _ => 0
  | .lz4Endmark => 0
  | .lz4ContentChecksum _ => 0
  | .lz4Sequence _ _ => 0
  | .lz4LastSequence _ => 0
  | .snpPreamble _ => 0
  | .snpLiteral _ _ _ => 0
  | .snpCopy1 _ _ => 0
  | .snpCopy2 _ _ => 0
  | .snpCopy4 _ _ => 0

/-- Does the symbol have a code in the tree? (R44, R201) -/
def treeHasCode (t : Tree) (s : Nat) : Bool := t.lens.getD s 0 != 0

/-- The `CFG` field of a configuration element (R95). -/
def Instr.cfgField (i : Instr) : Option CfgField :=
  match i with
  | .cfgCodecDeflate => some .codec
  | .cfgCodecZlib => some .codec
  | .cfgCodecGzip => some .codec
  | .cfgCodecLz4 => some .codec
  | .cfgCodecSnappy => some .codec
  | .cfgCodecZstd => some .codec
  | .cfgCodecReserved _ => some .codec
  | .cfgCkselNone => some .cksel
  | .cfgCkselCrc32 => some .cksel
  | .cfgCkselAdler32 => some .cksel
  | .cfgCkselReserved3 => some .cksel
  | .cfgTreeStored => some .treeMode
  | .cfgTreeFixed => some .treeMode
  | .cfgTreeDynamic => some .treeMode
  | .cfgTreeReserved3 => some .treeMode
  | .cfgLazy0 => some .isLazy
  | .cfgLazy1 => some .isLazy
  | .cfgIomodeBuffer => some .iomode
  | .cfgIomodeStream => some .iomode
  | _ => none

/-- A data block carries its data and checksum exactly when its size is within the block maximum (R324). -/
def blkFits (m : Nat) (hasCk : Bool) (size : BitVec 31) (data : List Byte) (ck : Option Word) : Bool :=
  if m < size.toNat then data.isEmpty && ck.isNone
  else data.length == size.toNat && ck.isSome == hasCk

/-- Can the element stand where the context reads? The format is the same, a symbol has a code in the tree, and the parts
that the context decides are there exactly when they are read (R289, R324, R360); a repeat of the previous length can
stand only after one (R260). -/
def Ctx.fits (c : Ctx) (i : Instr) : Bool :=
  c.format == i.format &&
  match c with
  | .cfg f => i.cfgField == some f
  | .llSym t => treeHasCode t i.symbol
  | .dSym t => treeHasCode t i.symbol
  | .clSym t noPrev => treeHasCode t i.symbol && !(noPrev && i.symbol == 16)
  | .gzipTrl crc =>
    match i with
    | .gzipTrailer v isize => isize.isSome == (v == crc)
    | _ => false
  | .lz4Magic =>
    match i with
    | .lz4Descriptor _ _ _ _ _ => false
    | .lz4ContentChecksum _ => false
    | _ => true
  | .lz4Desc =>
    match i with
    | .lz4Descriptor _ _ _ _ _ => true
    | _ => false
  | .lz4Content =>
    match i with
    | .lz4ContentChecksum _ => true
    | _ => false
  | .lz4Blk m hasCk =>
    match i with
    | .lz4BlockCompressed size data ck => blkFits m hasCk size data ck
    | .lz4BlockStored size data ck => blkFits m hasCk size data ck
    | .lz4Endmark => true
    | _ => false
  | .snpTag room =>
    match i with
    | .snpLiteral m ext data => if room < snpLitLen m ext then data.isEmpty else !data.isEmpty
    | _ => true
  | _ => true

/-- The instruction the decoder reads from one table word (log entry 8). A word of the opcode table does not say which
format it is read as, so words of one width are given to the formats in a fixed order: 8 bits to the commands below 16
and to `CFG.CKSEL` above; 16 bits to the zlib header where `CMF` (the first field of the row, bits 15:8) has `CM` = 8,
else to the `CFG` fields from bit 8 up; 32 bits to the LZ4 words; 40 bits to the token words; longer to the GZIP
header. -/
def decodeTableCtx (nbits w : Nat) : Option (Ctx × List Bool) :=
  if nbits = 8 then
    if w < 16 then some (.cmd, natBits 4 w) else some (.cfg .cksel, natBits 2 (w / 16))
  else if nbits = 16 then
    if w / 256 % 16 = 8 then some (.zlibHdr, natBits 8 (w / 256) ++ natBits 8 w)
    else if w / 8192 % 2 = 1 then some (.cfg .iomode, natBits 1 1)
    else if w / 4096 % 2 = 1 then some (.cfg .isLazy, natBits 1 1)
    else some (.cfg .treeMode, natBits 2 (w / 256))
  else if nbits = 32 then
    if w = 0 then some (.lz4Blk 65536 false, natBits 32 w) else some (.lz4Magic, natBits 32 w)
  else if nbits = 40 then some (.token, natBits 40 w)
  else if 80 ≤ nbits then some (.gzipHdr, natBits 80 w)
  else none

/-- The instruction of one table word. -/
def decodeTableWord (nbits w : Nat) : Option Instr :=
  match decodeTableCtx nbits w with
  | none => none
  | some (c, bs) =>
    match decode c bs with
    | .ok i _ => some i
    | _ => none

end Sys2Proof
end

