-- ==== Sys2Proof/Machine/Agents.lean ====
section
/-! DEFINITION. What each agent of the CORE does next (R6): either a step of its own (a header or trailer written, a
unit handed over or collected, a token produced) or an element, decoded from the agent's source and moved past. -/

namespace Sys2Proof.Machine

/-- What a turn comes to. -/
inductive Fetched where
  /-- An element to execute, in the state with its bits moved past. -/
  | elem (i : Instr) (s : State)
  /-- A step that is no element. -/
  | act (s : State)
  | fault (f : Fault)
  | refuse (r : Refusal)
  deriving DecidableEq, Repr

/-! ### Intake and dispatcher (the distributor) -/

/-- The element of a beat (R61). -/
def beatElem (b : Beat) : Option Instr :=
  match b.empty, b.last with
  | true, true => some .beatEndEmpty
  | true, false => none
  | false, true => some (.beatDataLast b.data)
  | false, false => some (.beatData b.data)

/-- Intake takes the oldest beat (R62) while a session still takes input or a stream is being discarded (R397). -/
def intakeTurn (s : State) : Option Fetched :=
  if 0 < s.discard ∨ (busy s ∧ s.inEnded = false) then
    match s.inp with
    | [] => none
    | b :: rest =>
      match beatElem b with
      | none => some (.refuse .illegalWord)
      | some i => some (.elem i { s with inp := rest })
  else none

/-- The unit loaded into an engine (R390, R398, R171), with its `BLKMAX` (`unitBlkmax`). -/
def loadUnit (index : Word) (w : Waiting) (blkmax : BitVec 23) (g : Engine) : Engine :=
  { g with
    blkbuf := Memory.ofBytes w.bytes
    blklen := BitVec.ofNat 23 w.bytes.length
    unit := { index := index, start := w.start, len := BitVec.ofNat 23 w.bytes.length, isFinal := w.isFinal }
    bitacc := 0, bitcnt := 0, outlen := 0
    pos := 0, moff := 0, mlen := 0, lookup := [], tokbuf := []
    st := .busy
    result := { g.result with bytes := [] }
    job := .start, tokRd := 0, cov := 0, blkStored := w.stored, blkCk := w.ck
    unp := { g.unp with blkmax := blkmax } }

/-- The `BLKMAX` (R22) of an engine from a hand-over on: that of the session's frame on decompression; a compression
leaves it (log entry 31). -/
def unitBlkmax (s : State) (g : Engine) : BitVec 23 :=
  match s.dir with
  | .compress => g.unp.blkmax
  | .decompress => s.unp.blkmax

/-- `DISPATCH` (R390): the oldest waiting block goes to engine i mod N when that engine is idle. -/
def dispatcherTurn (s : State) : Option Fetched :=
  if busy s then
    match s.blockQ with
    | [] => none
    | w :: rest =>
      match s.engines[engineOf s s.nextDispatch]? with
      | none => some (.fault .noEngine)
      | some g =>
        if g.st = .idle then
          some (.act { setEngine (engineOf s s.nextDispatch) (loadUnit s.nextDispatch w (unitBlkmax s g) g) s with
                       blockQ := rest, nextDispatch := s.nextDispatch + 1 })
        else none
  else none

/-! ### Collector -/

/-- A result is written out (R392); on decompression its bytes are the output the checksum unit takes (R164). -/
def collectDone (e : Nat) (g : Engine) (s : State) : State :=
  let s1 := match s.dir with
    | .compress => s
    | .decompress => { ckTake g.result.bytes s with content := s.content ++ g.result.bytes }
  setEngine e (idleEngine g)
    { emit g.result.bytes s1 with
      regs := { s1.regs with blockCount := s1.regs.blockCount + 1 }, nextCollect := s1.nextCollect + 1 }

/-- The collector (R392, R401, R394). A cancel that is pending takes effect at its step (R400). -/
def collectorTurn (s : State) : Option Fetched :=
  if busy s ∧ hasUnits s then
    if s.cancelReq then some (.act (cancelSession s))
    else if s.phase = .header then none
    else
      match s.engines[engineOf s s.nextCollect]? with
      | none => none
      | some g =>
        if g.unit.index = s.nextCollect then
          match g.st with
          | .done => some (.act (collectDone (engineOf s s.nextCollect) g s))
          | .failed =>
            some (.act (failWith g.result.errcode g.result.detail (engineOf s s.nextCollect) s.nextCollect s))
          | .idle => none
          | .busy => none
        else none
  else none

/-! ### Engines -/

/-- Chunks of a stored block (R242). -/
def chunks65535 : Nat → List Byte → List (List Byte)
  | 0, bs => [bs]
  | fuel + 1, bs => if bs.length ≤ 65535 then [bs] else bs.take 65535 :: chunks65535 fuel (bs.drop 65535)

/-- `DFL.STORED` (R242): one stored block for each chunk; `ISFINAL` on the last. -/
def putStored : List (List Byte) → Engine → Engine
  | [], g => g
  | c :: cs, g =>
    let g := alignOut (putBits 0 2 (putBits (bit (g.unit.isFinal && cs.isEmpty)) 1 g))
    let g := putBits (65535 - c.length) 16 (putBits c.length 16 g)
    putStored cs (putBytes c g)

/-- The bytes of the engine's block; `none` where they were not all written. -/
def blockData (g : Engine) : Option (List Byte) := g.blkbuf.readN 0 g.blklen.toNat

/-- An engine begins an LZ4 data block (R398, R325, R328): its own cursor at 0, nothing produced. The engine's `CUR` is
the cursor i of R325, an index in the data of the block (log entry 34). -/
def beginBlock (g : Engine) : Engine :=
  { g with unp := { g.unp with cur := 0, bitpos := 0, produced := 0, outwin := [] } }

/-- A step of `ENGINE.RUN` (R391) right after the unit was handed over. -/
def engineStart (s : State) (g : Engine) : Option Engine :=
  if s.params.engineFault.contains g.unit.index.toNat then some (failEngine .engineFault g)
  else
    match s.dir with
    | .compress =>
      if (codec s).isDeflate && treeModeOf s.scfg.cfg == 0 then
        match blockData g with
        | none => none
        | some bs => some (finishEngine (putStored (chunks65535 (bs.length / 65535) bs) { g with tokbuf := [tokenWord 2 0 0] }))
      else some { g with job := .tokenise }
    | .decompress =>
      match blockData g with
      | none => none
      | some bs =>
        if g.blkCk.isSome && g.blkCk != some (xxh32 s.params.xxh bs) then some (failEngine .lz4BlockCk (beginBlock g))
        else if g.blkStored then some (finishEngine (engLitsOut bs (beginBlock g)))
        else some { beginBlock g with job := .unpack }

/-- The word of a token (R92). -/
def wordOf (t : Token) : BitVec 40 :=
  match t with
  | .lit b => tokenWord 0 0 b.toNat
  | .mat off len => tokenWord 1 off len

/-- The token sequence is complete: `EOB` is appended (R178) and the packer begins; the fixed trees are loaded and the
header written at once, the dynamic statistics start from 0 (R241, R243, R245), `LITRUN` starts from 0 (R315, R355). -/
def endTokens (s : State) (g : Engine) : Engine :=
  let g := { g with tokbuf := g.tokbuf ++ [tokenWord 2 0 0], tokRd := 0, cov := 0 }
  if (codec s).isDeflate then
    if treeModeOf s.scfg.cfg = 1 then { putHeader 1 { g with tabs := g.tabs.fixed } with job := .pack }
    else
      { g with job := .count, freqLL := List.replicate 286 0, freqD := List.replicate 30 0,
               freqCL := List.replicate 19 0 }
  else { g with job := .pack, litrun := 0 }

/-- One pass of `LZ.BLOCK` (R176 to R178). -/
def tokeniseStep (s : State) (g : Engine) : Option Engine :=
  if g.pos.toNat < g.blklen.toNat then
    match blockData g with
    | none => none
    | some bs =>
      let r := lzStep (lazyOf s.scfg.cfg) (matchLimits s) bs g.pos.toNat
      some { g with
        moff := BitVec.ofNat 17 r.found.off, mlen := BitVec.ofNat 16 r.found.len
        tokbuf := g.tokbuf ++ [wordOf r.token]
        lookup := g.pos.toNat :: g.lookup
        pos := g.pos + BitVec.ofNat 23 r.token.span }
  else some (endTokens s g)

/-- Engine state after an engine's own step, as a turn. -/
def engineAct (e : Nat) (s : State) (o : Option Engine) : Fetched :=
  match o with
  | none => .fault .unwrittenRead
  | some g => .act (setEngine e g s)

/-- The next token of `TOKBUF` (R42). -/
def tokenTurn (e : Nat) (g : Engine) (s : State) : Fetched :=
  match g.tokbuf[g.tokRd]? with
  | none => .fault .unwrittenRead
  | some w =>
    match decode .token (natBits 40 w.toNat) with
    | .ok i _ => .elem i { setEngine e { g with tokRd := g.tokRd + 1 } s with actor := e }
    | _ => .refuse .illegalWord

/-- The next sequence of an LZ4 block (R325), read at the engine's own cursor (log entry 34), which a failed read leaves
at the start of the sequence (log entry 32). -/
def sequenceTurn (e : Nat) (g : Engine) (s : State) : Fetched :=
  match blockData g with
  | none => .fault .unwrittenRead
  | some bs =>
    match decode .lz4Seq (unreadBits g.unp bs) with
    | .ok i rest => .elem i { setEngine e { g with unp := moveTo bs.length rest.length g.unp } s with actor := e }
    | .bad d => .act (setEngine e (failEngine d g) s)
    | .short => .act (setEngine e (failEngine .lz4BadSeq g) s)
    | .illegal => .refuse .illegalWord

/-- A busy engine's next step (R391). -/
def engineTurn (e : Nat) (s : State) : Option Fetched :=
  match s.engines[e]? with
  | none => none
  | some g =>
    if busy s ∧ g.st = .busy then
      match g.job with
      | .start => some (engineAct e s (engineStart s g))
      | .tokenise => some (engineAct e s (tokeniseStep s g))
      | .count => some (tokenTurn e g s)
      | .pack => some (tokenTurn e g s)
      | .unpack => some (sequenceTurn e g s)
    else none

/-! ### Sequencer: compression -/

/-- Bytes of a 32-bit value, least significant first (R65). -/
def le32 (v : Word) : List Byte := leBytes 4 v.toNat

/-- `LZ4.WRHDR` (R317): magic, `FLG`, `BD`, `HC`. -/
def lz4Write (p : XxhPlugin) (blockKib : Nat) : List Byte :=
  let bd : Byte := BitVec.ofNat 8 (lz4SizeCode blockKib * 16)
  le32 lz4MagicWord ++ [0x60, bd, BitVec.ofNat 8 ((xxh32 p [0x60, bd]).toNat / 256)]

/-- The stream header written for the codec (R386); `none` while it cannot be written yet (R394). -/
def headerBytes (s : State) : Option (List Byte) :=
  match codec s with
  | .deflate => some []
  | .zlib => some (zlibWrite s.scfg.windowKib.toNat)
  | .gzip => some gzipWrite
  | .lz4 => some (lz4Write s.params.xxh s.scfg.blockKib.toNat)
  | .snappy => if s.inEnded then some (varint s.incnt.toNat) else none
  | .zstd => some []
  | .reserved => some []

/-- The stream trailer written for the codec (R282, R287, R320, R280, R356). -/
def trailerBytes (s : State) : List Byte :=
  match codec s with
  | .deflate => []
  | .zlib => beBytes 4 (adlerFin s.adler).toNat
  | .gzip => le32 (crcFin s.crc) ++ le32 (s.incnt.setWidth 32)
  | .lz4 => leBytes 4 0
  | .snappy => []
  | .zstd => []
  | .reserved => []

/-- The sequencer of a compression (R386, R383, R395). -/
def compressTurn (s : State) : Option Fetched :=
  match s.phase with
  | .header =>
    if codec s = .snappy ∧ s.inEnded ∧ 4294967296 ≤ s.incnt.toNat then some (.act (failSession .snpInputTooLong s))
    else
      match headerBytes s with
      | none => none
      | some bs => some (.act { emit bs s with phase := .body })
  | .body =>
    if s.inEnded ∧ s.asm = [] ∧ s.blockQ = [] ∧ s.nextCollect = s.nextCut then
      some (.act { s with phase := .trailer })
    else none
  | .trailer => some (.act (completeSession (emit (trailerBytes s) s)))
  | .idle => none
  | .done => none
  | .failed => none
  | .cancelled => none

/-! ### Sequencer: decompression -/

/-- How the next element is read (R387). -/
def wantCtx (s : State) : Option Ctx :=
  match s.want with
  | .nothing => none
  | .zlibHdr => some .zlibHdr
  | .gzipHdr => some .gzipHdr
  | .lz4Magic => some .lz4Magic
  | .lz4Desc => some .lz4Desc
  | .snpPre => some .snpPre
  | .dflHdr => some .dflHdr
  | .dflStored => some (.dflStored ((8 - s.unp.bitpos.toNat) % 8))
  | .dflDyn => some .dflDyn
  | .clSym => some (.clSym s.tabs.treeCL s.rdQ.isEmpty)
  | .llSym => some (.llSym s.tabs.treeLL)
  | .dSym => some (.dSym s.tabs.treeD)
  | .lz4Blk => some (.lz4Blk s.unp.blkmax.toNat (s.lz4flg.getLsbD 4))
  | .lz4Drain => none
  | .snpTag => some (.snpTag (s.unp.declared.toNat - s.unp.produced.toNat))
  | .zlibTrl => some .zlibTrl
  | .gzipTrl => some (.gzipTrl (crcFin s.crc))
  | .lz4Content => some .lz4Content
  | .trailing => none

/-- Read one element at the cursor (R25, R268). Where the bytes at hand end inside it, the unpacker waits for more
(R62), or, at the end of the stream, raises `TruncatedInput` (R72). `CUR` and `BITPOS` move only past an element read;
a read that waits or fails leaves them at the start of its element (log entry 32), and leaves every register that the
element's rule writes before that point, such as `BLKMAX` and `DECLARED` of R322, as it was (log entry 35). -/
def readElem (c : Ctx) (s : State) : Option Fetched :=
  match decode c (unreadBits s.unp s.strm) with
  | .ok i rest => some (.elem i { s with unp := moveTo s.strm.length rest.length s.unp })
  | .short => if s.inEnded then some (.act (raiseSeq .eof s)) else none
  | .bad d => some (.act (raiseSeq d s))
  | .illegal => some (.refuse .illegalWord)

/-- After the end mark, with every block collected (R330): content size, then content checksum. -/
def lz4Drained (s : State) : State :=
  let s' := { s with phase := .trailer }
  if s.lz4flg.getLsbD 3 ∧ s.unp.declared ≠ s.outcnt then failSession .lz4ContentSize s'
  else if s.lz4flg.getLsbD 2 then { s' with want := .lz4Content }
  else { s' with want := .trailing }

/-- The trailing-bytes test (R290), and the end of the session. -/
def trailingTurn (s : State) : Option Fetched :=
  if 0 < remaining s then some (.act (raiseSeq .trailingBytes s))
  else if s.inEnded then some (.act (completeSession s))
  else none

/-- The sequencer of a decompression (R387). -/
def decompressTurn (s : State) : Option Fetched :=
  if s.cancelReq ∧ hasUnits s = false then some (.act (cancelSession s))
  else
    match s.deferred with
    | some d => if s.nextCollect = s.nextCut then some (.act (failSession d s)) else none
    | none =>
      if s.phase = .header ∧ s.want = .dflHdr then some (.act { s with phase := .body })
      else if s.want = .lz4Drain then
        (if s.nextCollect = s.nextCut then some (.act (lz4Drained s)) else none)
      else if s.want = .trailing then trailingTurn s
      else if s.want = .snpTag ∧ s.unp.produced = s.unp.declared then
        some (.act { s with phase := .trailer, want := .trailing })
      else
        match wantCtx s with
        | none => none
        | some c => readElem c s

/-- The session sequencer (R383). -/
def sequencerTurn (s : State) : Option Fetched :=
  if busy s then
    match s.dir with
    | .compress => compressTurn s
    | .decompress => decompressTurn s
  else none

end Sys2Proof.Machine
end

