-- ==== Sys2Proof/Machine/Fetch.lean ====
section
/-! DEFINITION. Whose turn it is and what it comes to: the agents of the CORE, and the host at the register window and
the ports (R28, R29, R61, R68). -/

namespace Sys2Proof.Machine

/-- Which field of a result register a busy session hides (R481). -/
def resultReg (s : State) (v : Word) : Word := if busy s then Config.freeWord s.freeIdx else v

/-- A register read at a byte offset (R28, R29); result registers of a running session may show any value (R481, U9;
log entry 6). -/
def regRead (s : State) (off : Nat) : Word :=
  match off with
  | 0x04 => statusWord s
  | 0x08 => s.regs.cfg
  | 0x0C => s.regs.blockKib
  | 0x10 => s.regs.windowKib
  | 0x14 => s.regs.engines
  | 0x18 => resultReg s s.regs.errinfo
  | 0x1C => resultReg s s.regs.errblock
  | 0x20 => resultReg s s.regs.cksum
  | 0x24 => resultReg s (s.regs.inCount.setWidth 32)
  | 0x28 => resultReg s ((s.regs.inCount >>> 32).setWidth 32)
  | 0x2C => resultReg s (s.regs.outCount.setWidth 32)
  | 0x30 => resultReg s ((s.regs.outCount >>> 32).setWidth 32)
  | 0x34 => resultReg s s.regs.blockCount
  | _ => 0

/-- The element of a command write (R34: bits 31:4 are ignored). -/
def commandElem (v : Word) : Instr := cmdInstr (v.toNat % 16)

/-- The turns a write of `CFG` consists of, one for each field (R95; log entry 10). -/
def cfgTurns (v : Word) : List Turn :=
  [.cfgField .codec v, .cfgField .cksel v, .cfgField .treeMode v, .cfgField .isLazy v, .cfgField .iomode v]

/-- The element of one field of a `CFG` write (R30, R95). -/
def cfgFieldElem (f : CfgField) (v : Word) : Instr := cfgInstr f (fieldOf v f.pos f.width)

/-- A register write at a byte offset (R28, R29): read-only registers and offsets from 0x38 ignore it. -/
def regWrite (off : Nat) (v : Word) (s : State) : Fetched :=
  match off with
  | 0x00 => .elem (commandElem v) s
  | 0x08 => .act { s with agenda := cfgTurns v ++ s.agenda }
  | 0x0C => .act { s with regs := { s.regs with blockKib := v } }
  | 0x10 => .act { s with regs := { s.regs with windowKib := v } }
  | 0x14 => .act { s with regs := { s.regs with engines := v } }
  | _ => .act s

/-- An access the register window takes (R29, U2). -/
def accessOk (width off : Nat) : Bool := width == 32 && off % 4 == 0

/-- What the host does. -/
def hostTurn (op : HostOp) (s : State) : Fetched :=
  match op with
  | .write width off v => if accessOk width off then regWrite off v s else .refuse .badRegisterAccess
  | .read width off =>
    if accessOk width off then .act { s with readData := .reg (regRead s off), freeIdx := s.freeIdx + 1 }
    else .refuse .badRegisterAccess
  | .send b => .act { s with inp := s.inp ++ [b] }
  | .take =>
    match s.outp with
    | [] => .act { s with readData := .nothing }
    | b :: rest => .act { s with outp := rest, readData := .beat b }
  | .reset => .act (resetMachine s)

/-- What an agent of the CORE does next; `none` where it is not enabled. -/
def agentTurn (a : Agent) (s : State) : Option Fetched :=
  match a with
  | .collector => collectorTurn s
  | .engine e => engineTurn e s
  | .dispatcher => dispatcherTurn s
  | .sequencer => sequencerTurn s
  | .intake => intakeTurn s

/-- The first agent of a list that is enabled; with none enabled the CORE waits, all state kept (R460, R484). -/
def firstEnabled (s : State) : List Agent → Fetched
  | [] => .act s
  | a :: as =>
    match agentTurn a s with
    | some f => f
    | none => firstEnabled s as

/-- The fixed order of `Turn.core` (log entry 1). -/
def agentOrder (s : State) : List Agent :=
  .collector :: ((List.range s.engines.length).map Agent.engine ++ [.dispatcher, .sequencer, .intake])

/-- What a turn comes to. An agent that is named and not enabled takes no step. -/
def turnFetch (t : Turn) (s : State) : Fetched :=
  match t with
  | .core => firstEnabled s (agentOrder s)
  | .agent a =>
    match agentTurn a s with
    | some f => f
    | none => .act s
  | .host op => hostTurn op s
  | .cfgField f v => .elem (cfgFieldElem f v) s

/-- The next turn: the first of the agenda, or the fixed order when the agenda is empty. -/
def fetch (s : State) : Fetched :=
  match s.agenda with
  | [] => turnFetch .core s
  | t :: rest => turnFetch t { s with agenda := rest }

end Sys2Proof.Machine
end

