-- ==== Sys2Proof/Machine/Placement.lean ====
section
/-! DEFINITION. How one table word is placed so that the very next step fetches it (log entry 8): a command as a host
write of `CTRL`; a configuration value as the field write it is; a token in `TOKBUF` of engine 0 of a compression; the
wire formats as the bytes of a decompression's input at the element the sequencer reads next. -/

namespace Sys2Proof.Machine

/-- Bytes from bits, eight at a time, the last one filled with zeros. -/
def bytesOfBits : Nat → List Bool → List Byte
  | 0, _ => []
  | n + 1, bs => BitVec.ofNat 8 (natOfBits (bs.take 8)) :: bytesOfBits n (bs.drop 8)

/-- A decompression of a codec whose sequencer reads the given element next from the given bytes. -/
def placeStream (cfg : Word) (ph : Phase) (w : Want) (bs : List Byte) (s : State) : State :=
  { s with
    scfg := { s.scfg with cfg := cfg }, phase := ph, dir := .decompress, want := w
    unp := { s.unp with cur := 0, bitpos := 0, blkmax := BitVec.ofNat 23 65536 }
    strm := bs, inEnded := false, deferred := none, cancelReq := false, agenda := .agent .sequencer :: s.agenda }

/-- A compression whose engine 0 packs the given token next. -/
def placeToken (word : BitVec 40) (s : State) : State :=
  match s.engines with
  | [] => { s with agenda := .agent (.engine 0) :: s.agenda }
  | g :: gs =>
    { s with
      phase := .body, dir := .compress, cancelReq := false
      engines := { g with st := .busy, job := .pack, tokbuf := [word], tokRd := 0 } :: gs
      agenda := .agent (.engine 0) :: s.agenda }

/-- Place the word by the context the decoder reads it in. -/
def placeWord (s : State) (nbits w : Nat) : State :=
  match decodeTableCtx nbits w with
  | none => s
  | some (c, bs) =>
    match c with
    | .cmd => { s with agenda := .host (.write 32 0 (BitVec.ofNat 32 (natOfBits bs))) :: s.agenda }
    | .cfg f => { s with agenda := .cfgField f (BitVec.ofNat 32 (natOfBits bs * 2 ^ f.pos)) :: s.agenda }
    | .token => placeToken (BitVec.ofNat 40 (natOfBits bs)) s
    | .zlibHdr => placeStream 0x0201 .header .zlibHdr (bytesOfBits 2 bs) s
    | .gzipHdr => placeStream 0x0202 .header .gzipHdr (bytesOfBits 64 bs) s
    | .lz4Blk _ _ => placeStream 0x0203 .body .lz4Blk (bytesOfBits 4 bs) s
    | .lz4Magic => placeStream 0x0203 .header .lz4Magic (bytesOfBits 4 bs) s
    | _ => s

end Sys2Proof.Machine
end

