-- ==== Sys2Proof/Machine/Step.lean ====
section
/-! DEFINITION. One step of the machine, and an instruction placed where the step fetches it. -/

namespace Sys2Proof.Machine

/-- One step: fetch, and execute the element fetched. -/
def step (s : State) : Host.Outcome State Fault Refusal :=
  match fetch s with
  | .elem i s' => exec i s'
  | .act s' => .next s'
  | .fault f => .fault f
  | .refuse r => .refused r

/-- `s` with the instruction of one table word stored where the next step fetches it (log entry 8). -/
def State.withFetchWord (s : State) (nbits w : Nat) : State := placeWord s nbits w

end Sys2Proof.Machine
end

