-- ==== Sys2Proof/Safety.lean ====
section
/-! DEFINITION. What the statements call safe: the invariants of the state and the runs of the machine. -/

namespace Sys2Proof.Safety

open Machine

/-- Every byte memory of an engine is in its canonical form. -/
def engineMemWf (g : Engine) : Bool := Memory.wf g.blkbuf && Memory.wf g.unp.outwin

/-- Every byte memory of the machine is in its canonical form. -/
def memWf (s : State) : Bool := Memory.wf s.unp.outwin && s.engines.all engineMemWf

/-- The reserved bits of `CFG` read 0 (R29, R30). -/
def cfgReservedZero (s : State) : Bool := (s.regs.cfg &&& 0xFFFFCCC8#32) == 0

/-- The halves of `ADLER` never hold 65521 to 65535 (R162). -/
def adlerReduced (s : State) : Bool := decide (adlerA s.adler < 65521 ∧ adlerB s.adler < 65521)

/-- The pool holds the engines that were built (R8, R458). -/
def poolComplete (s : State) : Bool := s.engines.length == s.params.nmax

/-- Outside a session every engine is in the idle pool (R393). -/
def idleOutside (s : State) : Bool := busy s || s.engines.all (fun g => g.st == .idle)

/-- Every byte a decoder counts as produced is in its window (R47). -/
def WindowFilled (u : Unpacker) : Prop := ∀ a, a < u.produced.toNat → (u.outwin.read a).isSome = true

/-- Every byte of the block an engine holds is in its buffer (R46). -/
def BlockFilled (g : Engine) : Prop := ∀ a, a < g.blklen.toNat → (g.blkbuf.read a).isSome = true

/-- The sampled configuration of a running session passed the check (R384, R40). -/
def cfgSound (s : State) : Bool := !busy s || (cfgCheck s.params s.scfg).isNone

/-- The element the sequencer wants next belongs to the phase, and a compression wants none (R387). -/
def wantInPhase (s : State) : Bool :=
  (s.dir == .decompress || s.want == .nothing) &&
  match s.want with
  | .nothing => true
  | .zlibHdr => s.phase == .header
  | .gzipHdr => s.phase == .header
  | .lz4Magic => s.phase == .header
  | .lz4Desc => s.phase == .header
  | .snpPre => s.phase == .header
  | .dflHdr => s.phase == .header || s.phase == .body
  | .dflStored => s.phase == .body
  | .dflDyn => s.phase == .body
  | .clSym => s.phase == .body
  | .llSym => s.phase == .body
  | .dSym => s.phase == .body
  | .lz4Blk => s.phase == .body
  | .lz4Drain => s.phase == .body
  | .snpTag => s.phase == .body
  | .zlibTrl => s.phase == .trailer
  | .gzipTrl => s.phase == .trailer
  | .lz4Content => s.phase == .trailer
  | .trailing => s.phase == .trailer

/-- The transitions of `PHASE` (R383), with staying where it is. -/
def phaseMove (p q : Phase) : Bool :=
  p == q || q == .idle ||
  match p with
  | .idle => q == .header || q == .failed
  | .done => q == .header || q == .failed
  | .failed => q == .header
  | .cancelled => q == .header || q == .failed
  | .header => q == .body || q == .failed || q == .cancelled
  | .body => q == .trailer || q == .failed || q == .cancelled
  | .trailer => q == .done || q == .failed || q == .cancelled

/-- What a session's decoder has done when it has produced the bytes `bs` (R180, R164, R396): they stand in the window
after the bytes before, they are counted, they are accumulated in the effective checksum and in no other, and they
follow the earlier output bytes in order, released in stream mode but for at most the last one (R396; log entry 16);
nothing else has changed. -/
def Produces (bs : List Byte) (s t : State) : Prop :=
  t = { s with unp := { s.unp with outwin := t.unp.outwin,
                                   produced := s.unp.produced + BitVec.ofNat 64 bs.length },
               crc := t.crc, adler := t.adler, outcnt := s.outcnt + BitVec.ofNat 64 bs.length,
               outp := t.outp, stage := t.stage } ∧
  (∀ a, t.unp.outwin.read a =
    if s.unp.produced.toNat ≤ a ∧ a < s.unp.produced.toNat + bs.length then bs[a - s.unp.produced.toNat]?
    else s.unp.outwin.read a) ∧
  t.crc = (if effectiveCk s = .crc32 then crcUpd s.crc bs else s.crc) ∧
  t.adler = (if effectiveCk s = .adler32 then adlerUpd s.adler bs else s.adler) ∧
  t.outp ++ openBeats t.stage = s.outp ++ openBeats (s.stage ++ bs) ∧
  (streamMode s = false → t.outp = s.outp) ∧
  (streamMode s = true → bs ≠ [] ∨ s.stage.length ≤ 1 → t.stage.length ≤ 1)

/-- What taking a failure leaves (R440, R433, R396, R39); `u` the engine number and block index it reports. -/
def FailedWith (k : BitVec 4) (d : BitVec 8) (eng : Nat) (blk : Word) (s t : State) : Prop :=
  t.phase = .failed ∧ t.errcode = k ∧ t.regs.errinfo = BitVec.ofNat 32 (d.toNat + 256 * (eng % 256)) ∧
  t.regs.errblock = blk ∧ t.regs.cksum = 0 ∧
  t.regs.outCount = (if streamMode s then s.outcnt else 0) ∧
  t.regs.inCount.toNat ≤ suppliedBytes s ∧ t.regs.blockCount.toNat ≤ blockBound s ∧
  t.outp = s.outp ++ (if streamMode s then openBeats s.stage else []) ++ [endBeat] ∧ t.stage = [] ∧
  (∀ e : Nat, t.engines[e]? = (s.engines[e]?).map idleEngine) ∧
  t.discard = (if s.inEnded then s.discard else s.discard + 1) ∧
  t.want = .nothing ∧ t.asm = [] ∧ t.blockQ = [] ∧ t.deferred = none ∧ t.cancelReq = false ∧
  t.regs = { s.regs with errinfo := t.regs.errinfo, errblock := t.regs.errblock, cksum := t.regs.cksum,
                         inCount := t.regs.inCount, outCount := t.regs.outCount, blockCount := t.regs.blockCount } ∧
  t = { s with phase := t.phase, errcode := t.errcode, regs := t.regs, outp := t.outp, stage := t.stage,
               engines := t.engines, discard := t.discard, want := t.want, asm := t.asm, blockQ := t.blockQ,
               deferred := t.deferred, cancelReq := t.cancelReq, freeIdx := t.freeIdx,
               unp := t.unp, tabs := t.tabs, rdQ := t.rdQ, lz4flg := t.lz4flg }

/-- Taking a failure that belongs to no unit (R433). -/
def FailedAs (d : Detail) (s t : State) : Prop :=
  FailedWith (kindCode (detailKind d)) (detailCode d) 0 0xFFFFFFFF s t

/-- A `raise` of the session sequencer (R16, R441): the failure is taken, or, while blocks before it are uncollected, it
is held (R399; where it is held is log entry 15). -/
def Raised (d : Detail) (s t : State) : Prop :=
  if s.nextCollect = s.nextCut then FailedAs d s t else t = { s with deferred := some d, want := .nothing }

/-- The CORE has produced the bytes `bs` (R396): they are counted and follow the earlier output bytes in order, held in
`STAGE` or, in stream mode, released but for at most the last one (log entry 16); nothing else has changed. -/
def Emits (bs : List Byte) (s t : State) : Prop :=
  t = { s with outcnt := s.outcnt + BitVec.ofNat 64 bs.length, outp := t.outp, stage := t.stage } ∧
  t.outp ++ openBeats t.stage = s.outp ++ openBeats (s.stage ++ bs) ∧
  (streamMode s = false → t.outp = s.outp) ∧ (streamMode s = true → t.stage.length ≤ 1)

/-- The beats that end a stream with the bytes `bs` (R61): `last` on the last of them, or the empty stream's beat. -/
def closedBeats (bs : List Byte) : List Beat :=
  match bs.getLast? with
  | none => [endBeat]
  | some b => openBeats bs.dropLast ++ [{ data := b, last := true, empty := false }]

/-- The completion sequence after the trailer bytes `bs` (R395, R80, R39): all output is released and the stream closed,
`CKSUM` is the finalized effective checksum, `IN_COUNT` and `OUT_COUNT` are the two counters, every engine is idle, and
`PHASE` is `DONE`; nothing else has changed. -/
def DoneWith (bs : List Byte) (s t : State) : Prop :=
  t = { s with
    phase := .done
    regs := { s.regs with
      cksum := if effectiveCk s = .crc32 then crcFin s.crc else if effectiveCk s = .adler32 then adlerFin s.adler else 0
      inCount := s.incnt
      outCount := s.outcnt + BitVec.ofNat 64 bs.length }
    outcnt := s.outcnt + BitVec.ofNat 64 bs.length
    outp := s.outp ++ closedBeats (s.stage ++ bs)
    stage := []
    engines := s.engines.map idleEngine
    discard := if s.inEnded then s.discard else s.discard + 1
    want := .nothing, asm := [], blockQ := [], deferred := none, cancelReq := false }

/-- It is the sequencer's turn and it reads an element of the context `c` next (R387). -/
def SequencerReads (s : State) (rest : List Turn) (c : Ctx) : Prop :=
  s.agenda = .agent .sequencer :: rest ∧ busy s = true ∧ s.dir = .decompress ∧ s.deferred = none ∧
  ¬ (s.cancelReq = true ∧ hasUnits s = false) ∧ wantCtx s = some c ∧ ¬ (s.phase = .header ∧ s.want = .dflHdr) ∧
  ¬ (s.want = .snpTag ∧ s.unp.produced = s.unp.declared)

/-- It is the turn of engine `e`, which is busy with its unit (R391). -/
def EngineMoves (s : State) (rest : List Turn) (e : Nat) (g : Engine) : Prop :=
  s.agenda = .agent (.engine e) :: rest ∧ busy s = true ∧ s.engines[e]? = some g ∧ g.st = .busy

/-- The unpacker `v` is `u` moved past the bits `read` of the source `src`, with the bits `r` left (R25, R72): `CUR` and
`BITPOS` advance by as many bit positions as were read. -/
def MovedPast (read r : List Bool) (src : List Byte) (u v : Unpacker) : Prop :=
  v = { u with cur := v.cur, bitpos := v.bitpos } ∧ unreadBits u src = read ++ r ∧ unreadBits v src = r ∧
  8 * v.cur.toNat + v.bitpos.toNat = 8 * u.cur.toNat + u.bitpos.toNat + read.length

/-- The bits an engine has written so far, the unfinished byte included (R70). -/
def engineBits (g : Engine) : List Bool := bitsOfBytes g.result.bytes ++ natBits g.bitcnt.toNat g.bitacc.toNat

/-- From `g` to `h` bytes were added to the result, and `OUTLEN` grew by their number (R70). -/
def OutputGrew (g h : Engine) : Prop :=
  ∃ bs : List Byte, h.result.bytes = g.result.bytes ++ bs ∧ h.outlen = g.outlen + BitVec.ofNat 32 bs.length

/-- Two engines differ at most in what they have written, and `OUTLEN` counts it (R70). -/
def OnlyWrote (g h : Engine) : Prop :=
  h = { g with bitacc := h.bitacc, bitcnt := h.bitcnt, outlen := h.outlen,
               result := { g.result with bytes := h.result.bytes } } ∧
  OutputGrew g h

/-- Engine `e` becomes `h`, and nothing else changes. -/
def EngineBecomes (e : Nat) (h : Engine) (s t : State) : Prop := t = { s with engines := s.engines.set e h }

/-- The block an engine holds is the byte string `bs` (R46). -/
def BlockIs (g : Engine) (bs : List Byte) : Prop :=
  bs.length = g.blklen.toNat ∧ Memory.wf g.blkbuf = true ∧ ∀ k, k < bs.length → g.blkbuf.read k = bs[k]?

/-- A failure inside an engine's unit is recorded (R441): `ST` is `FAILED`, the result has its codes and the block index,
and outside `ST` and the result nothing has changed (what else the result holds is log entry 21). -/
def EngineFailed (d : Detail) (g h : Engine) : Prop :=
  h = { g with st := .failed, result := h.result } ∧ h.result.errcode = kindCode (detailKind d) ∧
  h.result.detail = detailCode d ∧ h.result.index = g.unit.index

/-- What an engine's decoder has done when it has produced the bytes `bs` (R180, R398): they stand in its window after
the bytes before, are counted, and are appended to its result; nothing else has changed. -/
def EngineProduces (bs : List Byte) (g h : Engine) : Prop :=
  h = { g with unp := { g.unp with outwin := h.unp.outwin,
                                   produced := g.unp.produced + BitVec.ofNat 64 bs.length },
               outlen := g.outlen + BitVec.ofNat 32 bs.length,
               result := { g.result with bytes := g.result.bytes ++ bs } } ∧
  ∀ a, h.unp.outwin.read a =
    if g.unp.produced.toNat ≤ a ∧ a < g.unp.produced.toNat + bs.length then bs[a - g.unp.produced.toNat]?
    else g.unp.outwin.read a

/-- `esc` are the escape bytes of an LZ4 length field `f` that stands for `v` (R118, R326): none below 15, else any number
of 255 and one byte that is not 255. -/
def Lz4LengthBytes (f : Nat) (esc : List Byte) (v : Nat) : Prop :=
  (f < 15 ∧ esc = [] ∧ v = f) ∨
  (f = 15 ∧ ∃ (n : Nat) (b : Byte), b ≠ 255 ∧ esc = List.replicate n 255 ++ [b] ∧ v = 15 + 255 * n + b.toNat)

/-- `bytes` are the one Snappy literal element of `lits` (R353): read before any bytes `tail` it gives `lits`, with the
shortest length form. -/
def SnpLiteralForm (bytes lits : List Byte) : Prop :=
  ∀ (room : Nat) (tail : List Byte), lits.length ≤ room →
    ∃ (m : BitVec 6) (ext : List Byte),
      decode (.snpTag room) (bitsOfBytes (bytes ++ tail)) = .ok (.snpLiteral m ext lits) (bitsOfBytes tail) ∧
      (if lits.length ≤ 60 then m.toNat + 1 = lits.length ∧ ext = []
       else m.toNat = 59 + ext.length ∧ leNat ext + 1 = lits.length ∧
        (ext.length = 1 ∨ 256 ^ (ext.length - 1) ≤ leNat ext))

/-- `bytes` are the Snappy copy element of an offset and length in the form R354 chooses: read before any bytes `tail` it
gives that element. -/
def SnpCopyForm (bytes : List Byte) (off len : Nat) : Prop :=
  ∀ (room : Nat) (tail : List Byte),
    decode (.snpTag room) (bitsOfBytes (bytes ++ tail)) = .ok
      (if 4 ≤ len ∧ len ≤ 11 ∧ off < 2048 then .snpCopy1 (BitVec.ofNat 3 (len - 4)) (BitVec.ofNat 11 off)
       else if off < 65536 then .snpCopy2 (BitVec.ofNat 6 (len - 1)) (BitVec.ofNat 16 off)
       else .snpCopy4 (BitVec.ofNat 6 (len - 1)) (BitVec.ofNat 32 off)) (bitsOfBytes tail)

/-- No code of a tree is the beginning of another, nor equal to it (R209 (c), R214). -/
def PrefixFree (t : Tree) : Prop :=
  ∀ a b, a < t.lens.length → b < t.lens.length → a ≠ b → t.lens.getD a 0 ≠ 0 → t.lens.getD b 0 ≠ 0 →
    t.lens.getD a 0 ≤ t.lens.getD b 0 →
    t.codes.getD b 0 / 2 ^ (t.lens.getD b 0 - t.lens.getD a 0) ≠ t.codes.getD a 0

/-- A tree as `HUF.ASSIGN` makes it from a table that is no longer than `n`, with lengths to 15: every code fits its
length (R201, R208). -/
def TreeOk (t : Tree) : Prop :=
  t.codes.length = t.lens.length ∧ (∀ a, t.codes.getD a 0 < 2 ^ t.lens.getD a 0) ∧ PrefixFree t

end Sys2Proof.Safety
end

