-- ==== Sys2Proof/Certificates/Slice0/Obligations.lean ====
section
/-! DEFINITION. The statements for the provers (OBLIGATIONS.json). -/

section

open Sys2Proof Sys2Proof.Machine Sys2Proof.Safety

/-- Words written out from the encoding tables decode to their elements (a beat's bit places: log entry 9) (30_encoding.md, R92, R94, R100, R110, R61, R95, R108).
The places of a beat's three fields among its ten bits are the model's choice, log entry 9. -/
def Obligations.SampleWordsDecode : Prop :=
  decode .cmd [false, true, false, false] = .ok .startDecompress [] ∧
  decode (.cfg .treeMode) [true, false] = .ok .cfgTreeFixed [] ∧
  decode .beat [true, false, false, false, false, true, true, false, true, false] = .ok (.beatDataLast 0x61) [] ∧
  decode .token (natBits 40 0x4000030006) = .ok (.matchTok 3 6) [] ∧
  decode .token (natBits 40 0x8000000000) = .ok .eob [] ∧
  decode .dflHdr [true, true, false] = .ok (.dflBlockFixed true) [] ∧
  decode (.llSym fixedTreeLL) [true, false, false, true, false, false, false, true] = .ok (.llLiteral 0x61) [] ∧
  decode (.dSym fixedTreeD) [false, false, false, true, false] = .ok .dDist2 [] ∧
  decode (.clSym (treeOf [1, 0, 1]) false) [true, false] = .ok .clLen2 [false] ∧
  decode .zlibHdr (bitsOfBytes [0x78, 0x9C]) = .ok (.zlibHeader 0x78 0x9C) [] ∧
  decode (.lz4Blk 65536 false) (bitsOfBytes [0, 0, 0, 0]) = .ok .lz4Endmark [] ∧
  decode (.snpTag 64) (bitsOfBytes [0x46, 0x03, 0x00]) = .ok (.snpCopy2 17 3) []

/-- Decoding an encoded command, configuration value, beat, token or DEFLATE header gives it back (R90, R92, R94, R95, R100). -/
def Obligations.OwnFormatsRoundTrip : Prop :=
  ∀ (c : Ctx) (i : Instr) (rest : List Bool),
    (c = .cmd ∨ (∃ f, c = .cfg f) ∨ c = .beat ∨ c = .token ∨ c = .dflHdr) →
    c.fits i = true → decode c (encode c i ++ rest) = .ok i rest

/-- Decoding an encoded DEFLATE body, zlib, GZIP or LZ4 frame element gives it back (R101, R107, R110, R112, R113, R115, R116). -/
def Obligations.FramesRoundTrip : Prop :=
  ∀ (c : Ctx) (i : Instr) (rest : List Bool),
    ((∃ p, c = .dflStored p) ∨ c = .dflDyn ∨ c = .zlibHdr ∨ c = .zlibTrl ∨ c = .gzipHdr ∨ (∃ v, c = .gzipTrl v) ∨
      c = .lz4Magic ∨ c = .lz4Desc ∨ (∃ m ck, c = .lz4Blk m ck) ∨ c = .lz4Content) →
    (c = .dflDyn ∨ rest.length % 8 = 0) → i.wellFormed = true → c.fits i = true → decode c (encode c i ++ rest) = .ok i rest

/-- Decoding an encoded LZ4 sequence or Snappy element gives it back (R117, R118, R120, R121, R122). -/
def Obligations.ByteElementsRoundTrip : Prop :=
  (∀ (lits : List Byte) (off : BitVec 16) (m : Nat) (tail : List Byte),
    decode .lz4Seq (encode .lz4Seq (.lz4Sequence lits (some (off, m))) ++ bitsOfBytes tail) =
      .ok (.lz4Sequence lits (some (off, m))) (bitsOfBytes tail)) ∧
  (∀ lits : List Byte,
    decode .lz4Seq (encode .lz4Seq (.lz4LastSequence lits)) = .ok (.lz4LastSequence lits) []) ∧
  (∀ (c : Ctx) (i : Instr) (rest : List Bool), (c = .snpPre ∨ ∃ room, c = .snpTag room) →
    i.wellFormed = true → c.fits i = true → decode c (encode c i ++ rest) = .ok i rest)

/-- Under a tree whose codes are prefix-free, decoding an encoded symbol gives it back (R104, R105, R108, R210, R215). -/
def Obligations.SymbolsRoundTrip : Prop :=
  ∀ (t : Tree) (i : Instr) (rest : List Bool) (q : Bool), TreeOk t →
    ((t.lens.length ≤ 288 → (Ctx.llSym t).fits i = true →
        decode (.llSym t) (encode (.llSym t) i ++ rest) = .ok i rest) ∧
     (t.lens.length ≤ 32 → (Ctx.dSym t).fits i = true →
        decode (.dSym t) (encode (.dSym t) i ++ rest) = .ok i rest) ∧
     (t.lens.length ≤ 19 → (Ctx.clSym t q).fits i = true →
        decode (.clSym t q) (encode (.clSym t q) i ++ rest) = .ok i rest))

/-- HUF.ASSIGN of a table that is not over-subscribed gives a prefix-free code (R208, R213, R214). -/
def Obligations.CanonicalCodesArePrefixFree : Prop :=
  ∀ (l : Nat) (lens : List Nat), (∀ n ∈ lens, n ≤ l) → overSubscribed l lens = false → TreeOk (treeOf lens)

/-- HUF.BUILD gives a complete table within the limit in which every used symbol has a code (R209, R202, R203, R206). -/
def Obligations.BuiltTreesAreComplete : Prop :=
  ∀ (freq : List Nat) (l : Nat), 2 ≤ freq.length → freq.length ≤ 2 ^ l →
    (buildLengths freq l).length = freq.length ∧ (∀ n ∈ buildLengths freq l, n ≤ l) ∧
    (∀ s, 0 < freq.getD s 0 → 1 ≤ (buildLengths freq l).getD s 0) ∧
    kraft l (buildLengths freq l) = 2 ^ l

/-- The code-length items of CL.RLE expand back to the sequence they code (R249, R260). -/
def Obligations.RunLengthsExpandBack : Prop :=
  ∀ q : List Nat, (∀ n ∈ q, n ≤ 15) →
    (clRle q).foldl (fun acc it =>
      if it.sym ≤ 15 then acc ++ [it.sym]
      else if it.sym = 16 then acc ++ List.replicate (3 + it.extra) (acc.getLast?.getD 0)
      else if it.sym = 17 then acc ++ List.replicate (3 + it.extra) 0
      else acc ++ List.replicate (11 + it.extra) 0) [] = q ∧
    ∀ it ∈ clRle q, it.bits = clExtra it.sym ∧ it.extra < 2 ^ it.bits

/-- LENSYM and DISTSYM choose the symbol that reads back as the length or distance (R104, R105). -/
def Obligations.LengthAndDistanceSymbols : Prop :=
  (∀ l, 3 ≤ l → l ≤ 258 →
    257 ≤ (lenSym l).sym ∧ (lenSym l).sym ≤ 285 ∧ lenBase (lenSym l).sym + (lenSym l).extra = l ∧
    (lenSym l).bits = lenExtra (lenSym l).sym ∧ (lenSym l).extra < 2 ^ (lenSym l).bits ∧
    (l = 258 → (lenSym l).sym = 285 ∧ (lenSym l).bits = 0) ∧
    (l ≠ 258 → (lenSym l).sym ≤ 284 ∧ ∀ x, (lenSym l).sym < x → x ≤ 284 → l < lenBase x)) ∧
  (∀ d, 1 ≤ d → d ≤ 32768 →
    (distSym d).sym ≤ 29 ∧ distBase (distSym d).sym + (distSym d).extra = d ∧
    (distSym d).bits = distExtra (distSym d).sym ∧ (distSym d).extra < 2 ^ (distSym d).bits ∧
    ∀ x, (distSym d).sym < x → x ≤ 29 → d < distBase x) ∧
  lenBase 284 + 31 = 258 ∧
  (List.range 29).map (fun k => lenBase (257 + k)) = [3, 4, 5, 6, 7, 8, 9, 10, 11, 13, 15, 17, 19, 23, 27, 31, 35, 43, 51,
    59, 67, 83, 99, 115, 131, 163, 195, 227, 258] ∧
  (List.range 30).map distBase = [1, 2, 3, 4, 5, 7, 9, 13, 17, 25, 33, 49, 65, 97, 129, 193, 257, 385, 513, 769, 1025,
    1537, 2049, 3073, 4097, 6145, 8193, 12289, 16385, 24577]

/-- The checksums of two ranges combine, and accumulating a byte range equals accumulating its parts (R155, R161, R153, R159). -/
def Obligations.ChecksumsSplitAndCombine : Prop :=
  (∀ a b : List Byte,
    crcComb (crc32 a) (crc32 b) b.length = crc32 (a ++ b) ∧
    adlerComb (adler32 a) (adler32 b) b.length = adler32 (a ++ b)) ∧
  (∀ (c : Word) (s u : List Byte), crcUpd c (s ++ u) = crcUpd (crcUpd c s) u) ∧
  (∀ (v : Word) (s u : List Byte), adlerUpd v (s ++ u) = adlerUpd (adlerUpd v s) u) ∧
  (∀ (c : Word) (b : Byte), crcUpd c [] = c ∧ adlerUpd c [] = c ∧ crcUpd c [b] = crcByte c b ∧
    adlerUpd c [b] = adlerByte c b)

/-- LZ.FIND returns the longest valid match with the smallest offset, or none (R173). -/
def Obligations.FindIsTheBestMatch : Prop :=
  ∀ (m : MatchLimits) (buf : List Byte) (p : Nat), 1 ≤ m.minMatch → p < buf.length →
    ((lzFind m buf p).len = 0 → (lzFind m buf p).off = 0 ∧ ∀ off len, ¬ ValidMatch m buf p off len) ∧
    ((lzFind m buf p).len ≠ 0 →
      ValidMatch m buf p (lzFind m buf p).off (lzFind m buf p).len ∧
      ∀ off len, ValidMatch m buf p off len →
        len ≤ (lzFind m buf p).len ∧ (len = (lzFind m buf p).len → (lzFind m buf p).off ≤ off))

/-- Expanding the tokens of LZ.BLOCK gives the block back, greedy or lazy (R184). -/
def Obligations.TokensExpandToTheBlock : Prop :=
  ∀ (isLazy : Bool) (m : MatchLimits) (buf : List Byte), 1 ≤ m.minMatch →
    expand [] (lzBlock isLazy m buf) = buf

/-- An engine's turns of LZ.BLOCK append the tokens of the block to TOKBUF one by one, then EOB, and the packer begins (R176, R177, R178, R92, R182, R241, R243, R245, R315, R355).
What the lookup index holds is log entry 22; one token a step is log entry 2. -/
def Obligations.TokenisingFillsTokbuf : Prop :=
  (∀ (s : State) (rest : List Turn) (e : Nat) (g : Engine) (bs : List Byte), EngineMoves s rest e g →
    g.job = .tokenise → BlockIs g bs →
    ∃ t h, step s = .next t ∧ EngineBecomes e h { s with agenda := rest } t ∧
      (g.pos.toNat < bs.length →
        let f := lzFind (matchLimits s) bs g.pos.toNat
        let probed := lazyOf s.scfg.cfg = true ∧ f.len ≠ 0 ∧ g.pos.toNat + 1 < bs.length
        let f' := if probed then lzFind (matchLimits s) bs (g.pos.toNat + 1) else f
        let tok := if f.len = 0 ∨ f.len < f'.len then Token.lit (bs.getD g.pos.toNat 0) else .mat f.off f.len
        h = { g with moff := BitVec.ofNat 17 f'.off, mlen := BitVec.ofNat 16 f'.len, pos := h.pos, lookup := h.lookup,
                     tokbuf := g.tokbuf ++ [wordOf tok] } ∧
        h.pos.toNat = g.pos.toNat + tok.span) ∧
      (bs.length ≤ g.pos.toNat → h.tokbuf = g.tokbuf ++ [0x8000000000] ∧ h.tokRd = 0 ∧ h.cov = 0 ∧
        (if (codec s).isDeflate = true then
          (if treeModeOf s.scfg.cfg = 1 then
            OnlyWrote { g with tokbuf := h.tokbuf, tokRd := 0, cov := 0, job := .pack, tabs := h.tabs } h ∧
            engineBits h = engineBits g ++ [g.unit.isFinal, true, false] ∧
            h.tabs.treeLL = fixedTreeLL ∧ h.tabs.treeD = fixedTreeD ∧
            h.tabs.lenCL = g.tabs.lenCL ∧ h.tabs.codeCL = g.tabs.codeCL
           else h = { g with tokbuf := h.tokbuf, tokRd := 0, cov := 0, job := .count,
                             freqLL := List.replicate 286 0, freqD := List.replicate 30 0,
                             freqCL := List.replicate 19 0 })
         else h = { g with tokbuf := h.tokbuf, tokRd := 0, cov := 0, job := .pack, litrun := 0 }))) ∧
  (∀ (s : State) (rest : List Turn) (e : Nat) (g : Engine) (bs : List Byte),
    let n := (lzBlock (lazyOf s.scfg.cfg) (matchLimits s) bs).length
    s.agenda = List.replicate (n + 1) (.agent (.engine e)) ++ rest → busy s = true → s.engines[e]? = some g →
    g.st = .busy → g.job = .tokenise → g.pos = 0 → g.tokbuf = [] → BlockIs g bs →
    ∃ t h, Sys2Proof.core.run (n + 1) s = .next t ∧ EngineBecomes e h { s with agenda := rest } t ∧ h.st = .busy ∧
      h.tokbuf = (lzBlock (lazyOf s.scfg.cfg) (matchLimits s) bs).map wordOf ++ [0x8000000000]) ∧
  (∀ b : Byte, decode .token (natBits 40 (wordOf (.lit b)).toNat) = .ok (.lit b) []) ∧
  (∀ off len : Nat, off < 2 ^ 17 → len < 2 ^ 16 → decode .token (natBits 40 (wordOf (.mat off len)).toNat) =
    .ok (.matchTok (BitVec.ofNat 17 off) (BitVec.ofNat 16 len)) [])

/-- LZ.COPY produces, byte by byte, the byte that stands the offset back (what stream mode holds back: log entry 16) (R181, R180, R396).
That `Produces` holds back at most the last byte in stream mode is the model's choice, log entry 16. -/
def Obligations.CopyReadsItsOwnOutput : Prop :=
  ∀ (off len : Nat) (s : State), WindowFilled s.unp → 1 ≤ off → off ≤ s.unp.produced.toNat →
    s.unp.produced.toNat + len < 2 ^ 64 →
    ∃ (bs : List Byte) (t : State), copyOut off len s = some t ∧ bs.length = len ∧ Produces bs s t ∧
      ∀ k, k < len → t.unp.outwin.read (s.unp.produced.toNat + k) =
        t.unp.outwin.read (s.unp.produced.toNat + k - off)

/-- A start command is accepted exactly when no session is busy (R381). -/
def Obligations.StartIsIgnoredWhileBusy : Prop :=
  ∀ s : State,
    (busy s = true → exec .startCompress s = .next s ∧ exec .startDecompress s = .next s) ∧
    (busy s = false → exec .startCompress s = .next (startSession .compress s) ∧
      exec .startDecompress s = .next (startSession .decompress s))

/-- An accepted start command with a legal configuration does SESSION.INIT (R385, R386, R387, R40). -/
def Obligations.StartInitialisesTheSession : Prop :=
  ∀ s : State, busy s = false → cfgCheck s.params (sampleCfg s.regs) = none →
    ∃ c d : State, exec .startCompress s = .next c ∧ exec .startDecompress s = .next d ∧
      c.dir = .compress ∧ d.dir = .decompress ∧ c.want = .nothing ∧ d.want = firstWant (codecOf s.regs.cfg) ∧
      ∀ t, (t = c ∨ t = d) →
        t.scfg = { cfg := s.regs.cfg, blockKib := s.regs.blockKib, windowKib := s.regs.windowKib,
                   engines := s.regs.engines } ∧
        t.phase = .header ∧ t.errcode = 0 ∧
        t.regs = { s.regs with errinfo := 0, errblock := 0xFFFFFFFF, cksum := 0, inCount := 0, outCount := 0,
                               blockCount := 0 } ∧
        t.crc = 0xFFFFFFFF ∧ t.adler = 1 ∧ t.nextDispatch = 0 ∧ t.nextCollect = 0 ∧ t.incnt = 0 ∧ t.outcnt = 0 ∧
        t.stage = [] ∧ t.unp.cur = 0 ∧ t.unp.bitpos = 0 ∧ t.unp.produced = 0 ∧ t.unp.declared = 0 ∧
        (∀ e : Nat, t.engines[e]? = (s.engines[e]?).map idleEngine) ∧
        t.inp = s.inp ∧ t.outp = s.outp ∧ t.tabs = s.tabs ∧ t.params = s.params ∧ t.discard = s.discard ∧
        t.agenda = s.agenda ∧ t.readData = s.readData

/-- A start command with an illegal configuration fails with the first test of CFG.CHECK that fails (R384). -/
def Obligations.ConfigCheckFailsInOrder : Prop :=
  ∀ s : State, busy s = false →
    let codecN := fieldOf s.regs.cfg 0 3
    let w := s.regs.windowKib.toNat
    let winOk := w = 1 ∨ w = 2 ∨ w = 4 ∨ w = 8 ∨ w = 16 ∨ w = 32 ∨ (w = 64 ∧ (codecN = 3 ∨ codecN = 4))
    let failed := fun (d : Detail) (t : State) => t.phase = .failed ∧ t.errcode = kindCode (detailKind d) ∧
      t.regs.errinfo = BitVec.ofNat 32 (detailCode d).toNat ∧ t.regs.errblock = 0xFFFFFFFF ∧
      t.outp = s.outp ++ [endBeat] ∧ t.regs.outCount = 0 ∧ t.regs.cksum = 0
    ∃ c d : State, exec .startCompress s = .next c ∧ exec .startDecompress s = .next d ∧
      ∀ t, (t = c ∨ t = d) →
        if 5 < codecN then failed .cfgCodec t
        else if 2 < fieldOf s.regs.cfg 4 2 then failed .cfgCksel t
        else if 2 < fieldOf s.regs.cfg 8 2 then failed .cfgTree t
        else if s.regs.blockKib.toNat < 1 ∨ 4096 < s.regs.blockKib.toNat then failed .cfgBlock t
        else if s.regs.engines.toNat < 1 ∨ s.params.nmax < s.regs.engines.toNat then failed .cfgEngines t
        else if codecN ≠ 5 ∧ ¬ winOk then failed .cfgWindow t
        else if codecN = 5 then failed .zstdCodec t
        else t.phase = .header

/-- NOP and the reserved commands change nothing; CANCEL is recorded in a session and does nothing outside one (R380, R94, R400). -/
def Obligations.CommandsThatStartNothing : Prop :=
  ∀ (s : State) (a : BitVec 1) (b : BitVec 3),
    exec .nop s = .next s ∧ exec .cmdReserved5 s = .next s ∧ exec (.cmdReserved6to7 a) s = .next s ∧
    exec (.cmdReserved8to15 b) s = .next s ∧
    (busy s = false → exec .cancel s = .next s) ∧
    (busy s = true → exec .cancel s = .next { s with cancelReq := true })

/-- A recorded cancel ends the session at the next step of the collector, or of the unpacker where there are no units (R400, R383, R39).
The bounds of the two free counters are log entry 5; when a cancel takes effect is log entry 14. -/
def Obligations.CancelEndsTheSession : Prop :=
  ∀ (s : State) (rest : List Turn) (a : Agent), busy s = true → s.cancelReq = true →
    (hasUnits s = true ∧ a = .collector ∨ hasUnits s = false ∧ a = .sequencer) → s.agenda = .agent a :: rest →
    ∃ t, step s = .next t ∧ t.phase = .cancelled ∧ t.errcode = 0 ∧ t.regs.cksum = 0 ∧
      t.regs.outCount = (if streamMode s then s.outcnt else 0) ∧
      t.regs.inCount.toNat ≤ suppliedBytes s ∧ t.regs.blockCount.toNat ≤ blockBound s ∧
      t.outp = s.outp ++ (if streamMode s then openBeats s.stage else []) ++ [endBeat] ∧
      (∀ g ∈ t.engines, g.st = .idle) ∧ t.blockQ = [] ∧ t.asm = [] ∧ t.stage = [] ∧ t.dir = s.dir

/-- SOFT_RESET and the hardware reset set every state item to its reset value and empty both ports (unspecified items: log entry 3) (R54, R382, R470).
The values of the items R54 leaves unspecified are the model's choice, log entry 3; that `agenda`, `readData` and
`freeIdx` are set apart is log entry 25. -/
def Obligations.ResetRestoresTheResetValues : Prop :=
  (∀ s : State, ∃ t, exec .softReset s = .next t ∧ t.inp = [] ∧ t.outp = [] ∧ t.phase = .idle ∧
    t.regs = Regs.reset ∧
    { t with agenda := [], readData := .nothing, freeIdx := 0 } = State.resetWith s.params) ∧
  (∃ p, State.reset = State.resetWith p) ∧
  (∀ (s : State) (rest : List Turn), s.agenda = .host .reset :: rest →
    step s = exec .softReset { s with agenda := rest }) ∧
  ∀ p : Params,
    let s := State.resetWith p
    s.phase = .idle ∧ statusWord s = 0 ∧ s.regs.cfg = 0x00000200 ∧ s.regs.blockKib = 32 ∧ s.regs.windowKib = 32 ∧
    s.regs.engines = 1 ∧ s.regs.errinfo = 0 ∧ s.regs.cksum = 0 ∧ s.regs.inCount = 0 ∧ s.regs.outCount = 0 ∧
    s.regs.blockCount = 0 ∧ s.regs.errblock = 0xFFFFFFFF ∧
    s.scfg = { cfg := 0x00000200, blockKib := 32, windowKib := 32, engines := 1 } ∧
    s.crc = 0xFFFFFFFF ∧ crcFin s.crc = 0 ∧ s.adler = 1 ∧ s.nextDispatch = 0 ∧ s.nextCollect = 0 ∧ s.incnt = 0 ∧
    s.outcnt = 0 ∧ s.stage = [] ∧ s.inp = [] ∧ s.outp = [] ∧
    (∀ g ∈ s.engines, g.st = .idle ∧ g.pos = 0 ∧ g.blklen = 0 ∧ g.moff = 0 ∧ g.mlen = 0 ∧ g.litrun = 0 ∧
      g.bitacc = 0 ∧ g.bitcnt = 0 ∧ g.outlen = 0) ∧
    s.unp.cur = 0 ∧ s.unp.bitpos = 0 ∧ s.unp.bfinal = false ∧ s.unp.btype = 0 ∧ s.unp.hlit = 0 ∧ s.unp.hdist = 0 ∧
    s.unp.hclen = 0 ∧ s.unp.produced = 0 ∧ s.unp.declared = 0 ∧ s.unp.blkmax = 0

/-- Every configuration field element writes its field of CFG and nothing else (R29, R30, R95, R40). -/
def Obligations.ConfigFieldsHoldTheirValue : Prop :=
  ∀ (f : CfgField) (v : Nat) (s : State), v < 2 ^ f.width →
    (cfgInstr f v).cfgField = some f ∧
    ∃ t, exec (cfgInstr f v) s = .next t ∧ fieldOf t.regs.cfg f.pos f.width = v ∧
      (∀ k, (k < f.pos ∨ f.pos + f.width ≤ k) → t.regs.cfg.getLsbD k = s.regs.cfg.getLsbD k) ∧
      t = { s with regs := { s.regs with cfg := t.regs.cfg } }

/-- A decompression takes its input bytes in order; a beat of a discarded stream is dropped; one with no taker is the model's (entry 26) (R397, R61, R49, R387).
That a beat with no taker leaves the state as it is, is the model's choice, log entries 26 and 2: no turn fetches it there
and no rule says it. -/
def Obligations.BeatsOfADecompression : Prop :=
  ∀ (s : State) (b : Byte),
    (0 < s.discard → exec (.beatData b) s = .next s ∧
      exec (.beatDataLast b) s = .next { s with discard := s.discard - 1 } ∧
      exec .beatEndEmpty s = .next { s with discard := s.discard - 1 }) ∧
    (s.discard = 0 → (busy s = false ∨ s.inEnded = true) →
      exec (.beatData b) s = .next s ∧ exec (.beatDataLast b) s = .next s ∧ exec .beatEndEmpty s = .next s) ∧
    (s.discard = 0 → busy s = true → s.inEnded = false → s.dir = .decompress →
      exec (.beatData b) s = .next { s with incnt := s.incnt + 1, strm := s.strm ++ [b], inEnded := false } ∧
      exec (.beatDataLast b) s = .next { s with incnt := s.incnt + 1, strm := s.strm ++ [b], inEnded := true } ∧
      exec .beatEndEmpty s = .next { s with inEnded := true })

/-- A compression counts and cuts each byte into blocks and refuses the 2^32-th; an empty last beat after data is the model's (entry 12) (R388, R389, R164, R486).
What an empty last beat after data bytes does is the model's choice, log entry 12; that the step which would close block
0xFFFFFFFF refuses is log entry 20. -/
def Obligations.CompressionCutsBlocks : Prop :=
  ∀ (s : State) (b : Byte), s.discard = 0 → busy s = true → s.inEnded = false → s.dir = .compress →
    let closes := fun (last : Bool) => last = true ∨ s.scfg.blockKib.toNat * 1024 ≤ s.asm.length + 1
    let cutQ := fun (bytes : List Byte) (fin : Bool) => s.blockQ ++
      [{ bytes := bytes, start := BitVec.ofNat 64 (s.nextCut.toNat * (s.scfg.blockKib.toNat * 1024)), isFinal := fin,
         stored := false, ck := none }]
    (∀ last : Bool, (closes last → s.nextCut ≠ 0xFFFFFFFF) → ∃ t,
      exec (if last then .beatDataLast b else .beatData b) s = .next t ∧
      t.incnt = s.incnt + 1 ∧ t.inEnded = last ∧
      t.crc = (if effectiveCk s = .crc32 then crcByte s.crc b else s.crc) ∧
      t.adler = (if effectiveCk s = .adler32 then adlerByte s.adler b else s.adler) ∧
      (if closes last then
        t.asm = [] ∧ t.nextCut = s.nextCut + 1 ∧ t.blockQ = cutQ (s.asm ++ [b]) last
       else t.asm = s.asm ++ [b] ∧ t.nextCut = s.nextCut ∧ t.blockQ = s.blockQ) ∧
      t = { s with incnt := t.incnt, inEnded := t.inEnded, crc := t.crc, adler := t.adler, asm := t.asm,
                   nextCut := t.nextCut, blockQ := t.blockQ }) ∧
    (s.asm = [] → s.nextCut = 0 → exec .beatEndEmpty s = .next
      (if codec s = .deflate ∨ codec s = .zlib ∨ codec s = .gzip then
        { s with inEnded := true, nextCut := 1, blockQ := cutQ [] true }
       else { s with inEnded := true })) ∧
    (s.nextCut ≠ 0xFFFFFFFF → s.asm ≠ [] ∨ s.nextCut ≠ 0 → exec .beatEndEmpty s = .next
      (if s.asm ≠ [] ∨ codec s = .deflate ∨ codec s = .zlib ∨ codec s = .gzip then
        { s with inEnded := true, asm := [], nextCut := s.nextCut + 1, blockQ := cutQ s.asm true }
       else { s with inEnded := true })) ∧
    (s.nextCut = 0xFFFFFFFF →
      (∀ last : Bool, closes last →
        exec (if last then .beatDataLast b else .beatData b) s = .refused .tooManyBlocks) ∧
      exec .beatEndEmpty s =
        (if s.asm ≠ [] ∨ codec s = .deflate ∨ codec s = .zlib ∨ codec s = .gzip then .refused .tooManyBlocks
         else .next { s with inEnded := true }))

/-- On decompression LIT appends its byte, MATCH copies from the window, EOB carries no data (DIR chooses: log entries 2 and 17) (R180, R181, R92, R328).
That `DIR` selects the decoder's action of a token is log entry 17; that no turn fetches a token there, log entry 2.
That all but the last byte produced is released in stream mode is log entry 16. -/
def Obligations.TokensDecodeIntoTheWindow : Prop :=
  ∀ (s : State) (b : Byte) (off : BitVec 17) (len : BitVec 16), s.dir = .decompress →
    exec .eob s = .next s ∧
    (codec s ≠ .lz4 → (∃ t, exec (.lit b) s = .next t ∧ Produces [b] s t) ∧
      (WindowFilled s.unp → 1 ≤ off.toNat → off.toNat ≤ s.unp.produced.toNat →
        s.unp.produced.toNat + len.toNat < 2 ^ 64 →
        ∃ (bs : List Byte) (t : State), exec (.matchTok off len) s = .next t ∧ bs.length = len.toNat ∧
          Produces bs s t ∧
          ∀ k, k < len.toNat → t.unp.outwin.read (s.unp.produced.toNat + k) =
            t.unp.outwin.read (s.unp.produced.toNat + k - off.toNat))) ∧
    (codec s = .lz4 → ∀ g : Engine, s.engines[s.actor]? = some g →
      (∃ t h, exec (.lit b) s = .next t ∧ EngineBecomes s.actor h s t ∧ EngineProduces [b] g h) ∧
      (WindowFilled g.unp → 1 ≤ off.toNat → off.toNat ≤ g.unp.produced.toNat →
        g.unp.produced.toNat + len.toNat < 2 ^ 64 →
        ∃ (bs : List Byte) (t : State) (h : Engine), exec (.matchTok off len) s = .next t ∧
          EngineBecomes s.actor h s t ∧ bs.length = len.toNat ∧ EngineProduces bs g h ∧
          ∀ k, k < len.toNat → h.unp.outwin.read (g.unp.produced.toNat + k) =
            h.unp.outwin.read (g.unp.produced.toNat + k - off.toNat)))

/-- The DEFLATE packer writes each token with the trees in the tables and nothing else changes (R244, R210, R66, R70). -/
def Obligations.DeflatePackerWritesTokens : Prop :=
  ∀ (s : State) (g : Engine) (b : Byte) (off : BitVec 17) (len : BitVec 16),
    s.dir = .compress → (codec s).isDeflate = true → s.engines[s.actor]? = some g → g.job = .pack →
    (∃ (t : State) (h : Engine), exec (.lit b) s = .next t ∧ EngineBecomes s.actor h s t ∧ OnlyWrote g h ∧
      engineBits h = engineBits g ++ symBits g.tabs.treeLL b.toNat) ∧
    (1 ≤ off.toNat → off.toNat ≤ windowBytes s → 3 ≤ len.toNat → len.toNat ≤ 258 →
      ∃ (t : State) (h : Engine), exec (.matchTok off len) s = .next t ∧ EngineBecomes s.actor h s t ∧ OnlyWrote g h ∧
        engineBits h = engineBits g ++
          (symBits g.tabs.treeLL (lenSym len.toNat).sym ++ natBits (lenSym len.toNat).bits (lenSym len.toNat).extra ++
           symBits g.tabs.treeD (distSym off.toNat).sym ++ natBits (distSym off.toNat).bits (distSym off.toNat).extra))

/-- EOB ends a DEFLATE block: the end-of-block code, then padding or the SYNC marker, and the engine is DONE (R241, R244, R251, R252, R391, R70). -/
def Obligations.DeflateBlockEndIsAligned : Prop :=
  ∀ (s : State) (g : Engine),
    s.dir = .compress → (codec s).isDeflate = true → s.engines[s.actor]? = some g → g.job = .pack →
    ∃ (t : State) (h : Engine) (pad : Nat), exec .eob s = .next t ∧ EngineBecomes s.actor h s t ∧
      h.st = .done ∧ h.bitcnt = 0 ∧ pad < 8 ∧
      bitsOfBytes h.result.bytes = engineBits g ++ symBits g.tabs.treeLL 256 ++
        (if g.unit.isFinal then List.replicate pad false
         else List.replicate (3 + pad) false ++ bitsOfBytes [0, 0, 0xFF, 0xFF]) ∧
      OutputGrew g h ∧ h.result.usize = g.blklen ∧ h.result.csize = h.outlen ∧ h.result.index = g.unit.index ∧
      h.result.isFinal = g.unit.isFinal ∧ h.result.errcode = 0 ∧ h.result.detail = 0 ∧
      h = { g with st := h.st, bitacc := h.bitacc, bitcnt := h.bitcnt, outlen := h.outlen, result := h.result }

/-- The first read of TOKBUF counts each token; EOB completes the trees and writes the dynamic block header (R241, R245, R246, R247, R248, R249, R250, R208).
That the code of a symbol without one is 0 is log entry 33. -/
def Obligations.TokenStatistics : Prop :=
  ∀ (s : State) (g : Engine) (b : Byte) (off : BitVec 17) (len : BitVec 16),
    s.dir = .compress → (codec s).isDeflate = true → s.engines[s.actor]? = some g → g.job = .count →
    g.freqLL.length = 286 → g.freqD.length = 30 →
    (∃ (t : State) (h : Engine), exec (.lit b) s = .next t ∧ EngineBecomes s.actor h s t ∧
      h = { g with freqLL := h.freqLL } ∧
      ∀ k, k < 286 → h.freqLL.getD k 0 = g.freqLL.getD k 0 + (if k = b.toNat then 1 else 0)) ∧
    (1 ≤ off.toNat → off.toNat ≤ windowBytes s → off.toNat ≤ 32768 → 3 ≤ len.toNat → len.toNat ≤ 258 →
      ∃ (t : State) (h : Engine), exec (.matchTok off len) s = .next t ∧ EngineBecomes s.actor h s t ∧
        h = { g with freqLL := h.freqLL, freqD := h.freqD } ∧
        (∀ k, k < 286 → h.freqLL.getD k 0 = g.freqLL.getD k 0 + (if k = (lenSym len.toNat).sym then 1 else 0)) ∧
        (∀ k, k < 30 → h.freqD.getD k 0 = g.freqD.getD k 0 + (if k = (distSym off.toNat).sym then 1 else 0))) ∧
    (∃ (t : State) (h : Engine) (nll nd ncl : Nat), exec .eob s = .next t ∧ EngineBecomes s.actor h s t ∧
      let fs := g.freqLL.set 256 (g.freqLL.getD 256 0 + 1)
      let lensLL := buildLengths (fs.map BitVec.toNat) 15 ++ [0, 0]
      let lensD := buildLengths (g.freqD.map BitVec.toNat) 15 ++ [0, 0]
      let ll := h.tabs.lenLL.map BitVec.toNat
      let d := h.tabs.lenD.map BitVec.toNat
      let items := clRle (ll.take nll ++ d.take nd)
      let counts := (List.range 19).map fun x => items.countP fun it => it.sym == x
      let lensCL := buildLengths counts 7
      let order := [16, 17, 18, 0, 8, 7, 9, 6, 10, 5, 11, 4, 12, 3, 13, 2, 14, 1, 15]
      h = { g with freqLL := fs, freqCL := counts.map (BitVec.ofNat 32), tabs := h.tabs, job := .pack, tokRd := 0,
                   cov := 0, bitacc := h.bitacc, bitcnt := h.bitcnt, outlen := h.outlen,
                   result := { g.result with bytes := h.result.bytes } } ∧
      OutputGrew g h ∧
      h.tabs = { lenLL := lensLL.map (BitVec.ofNat 4), codeLL := (assignCodes lensLL).map (BitVec.ofNat 15),
                 lenD := lensD.map (BitVec.ofNat 4), codeD := (assignCodes lensD).map (BitVec.ofNat 15),
                 lenCL := lensCL.map (BitVec.ofNat 3), codeCL := (assignCodes lensCL).map (BitVec.ofNat 7) } ∧
      257 ≤ nll ∧ nll ≤ 286 ∧ (∀ x, nll ≤ x → ll.getD x 0 = 0) ∧ (nll = 257 ∨ ll.getD (nll - 1) 0 ≠ 0) ∧
      1 ≤ nd ∧ nd ≤ 30 ∧ (∀ x, nd ≤ x → d.getD x 0 = 0) ∧ (nd = 1 ∨ d.getD (nd - 1) 0 ≠ 0) ∧
      4 ≤ ncl ∧ ncl ≤ 19 ∧ (∀ j, ncl ≤ j → j < 19 → lensCL.getD (order.getD j 0) 0 = 0) ∧
      (ncl = 4 ∨ lensCL.getD (order.getD (ncl - 1) 0) 0 ≠ 0) ∧
      engineBits h = engineBits g ++
        ([g.unit.isFinal, false, true] ++ natBits 5 (nll - 257) ++ natBits 5 (nd - 1) ++ natBits 4 (ncl - 4) ++
         (order.take ncl).flatMap (fun x => natBits 3 (lensCL.getD x 0)) ++
         items.flatMap (fun it => symBits (treeOf lensCL) it.sym ++ natBits it.bits it.extra)))

/-- The LZ4 and Snappy packers gather literals and write one sequence, or literal and copy, at a match (R315, R353, R354, R355, R122, R70).
That the scratch result of an LZ4 block is held in the result and counted in `OUTLEN` is log entry 36. -/
def Obligations.BytePackersWriteElements : Prop :=
  ∀ (s : State) (g : Engine) (b : Byte) (off : BitVec 17) (len : BitVec 16),
    s.dir = .compress → (codec s = .lz4 ∨ codec s = .snappy) → s.engines[s.actor]? = some g →
    exec (.lit b) s = .next
      { s with engines := s.engines.set s.actor { g with litrun := g.litrun + 1, cov := g.cov + 1 } } ∧
    (BlockFilled g → Memory.wf g.blkbuf = true → g.litrun.toNat ≤ g.cov.toNat → g.cov.toNat ≤ g.blklen.toNat →
      matchInRange (matchLimits s) off.toNat len.toNat = true →
      ∃ (t : State) (h : Engine) (lits : List Byte), exec (.matchTok off len) s = .next t ∧ EngineBecomes s.actor h s t ∧
        lits.length = g.litrun.toNat ∧
        (∀ k, k < g.litrun.toNat → lits[k]? = g.blkbuf.read (g.cov.toNat - g.litrun.toNat + k)) ∧
        (codec s = .lz4 → h.result.bytes = g.result.bytes ++ lz4SeqBytes lits (some (off.toNat, len.toNat - 4))) ∧
        (codec s = .snappy → ∃ lit cp : List Byte, h.result.bytes = g.result.bytes ++ lit ++ cp ∧
          (lits = [] → lit = []) ∧ (lits ≠ [] → SnpLiteralForm lit lits) ∧ SnpCopyForm cp off.toNat len.toNat) ∧
        OutputGrew g h ∧ h.litrun = 0 ∧ h.cov = g.cov + BitVec.ofNat 23 len.toNat ∧
        h = { g with litrun := h.litrun, cov := h.cov, outlen := h.outlen,
                     result := { g.result with bytes := h.result.bytes } })

/-- EOB ends an LZ4 or Snappy block; LZ4 stores the block unchanged when packing does not shorten it (R315, R319, R355, R391, R353, R70).
That the scratch result of an LZ4 block was held in the result until here is log entry 36. -/
def Obligations.ByteBlocksEnd : Prop :=
  ∀ (s : State) (g : Engine),
    s.dir = .compress → (codec s = .lz4 ∨ codec s = .snappy) → s.engines[s.actor]? = some g →
    BlockFilled g → Memory.wf g.blkbuf = true → g.litrun.toNat ≤ g.cov.toNat → g.cov.toNat ≤ g.blklen.toNat →
    ∃ (t : State) (h : Engine) (lits raw : List Byte), exec .eob s = .next t ∧ EngineBecomes s.actor h s t ∧
      h.st = .done ∧ lits.length = g.litrun.toNat ∧
      (∀ k, k < g.litrun.toNat → lits[k]? = g.blkbuf.read (g.cov.toNat - g.litrun.toNat + k)) ∧
      raw.length = g.blklen.toNat ∧ (∀ k, k < g.blklen.toNat → raw[k]? = g.blkbuf.read k) ∧
      (codec s = .lz4 → h.result.bytes =
        (let c := g.result.bytes ++ lz4SeqBytes lits none
         if c.length < g.blklen.toNat then leBytes 4 c.length ++ c else leBytes 4 (2147483648 + raw.length) ++ raw)) ∧
      (codec s = .snappy → ∃ lit : List Byte, h.result.bytes = g.result.bytes ++ lit ∧
        (lits = [] → lit = []) ∧ (lits ≠ [] → SnpLiteralForm lit lits)) ∧
      (codec s = .lz4 → h.outlen = BitVec.ofNat 32 h.result.bytes.length) ∧ (codec s = .snappy → OutputGrew g h) ∧
      h.result.usize = g.blklen ∧ h.result.csize = h.outlen ∧ h.result.index = g.unit.index ∧
      h.result.isFinal = g.unit.isFinal ∧ h.result.errcode = 0 ∧ h.result.detail = 0 ∧
      h = { g with st := h.st, outlen := h.outlen, result := h.result }

/-- The three block headers set BFINAL and BTYPE and select what is read next; a fixed block loads the fixed trees, as R106 lists them (R100, R255, R256, R262, R211, R106, R208). -/
def Obligations.DeflateHeadersSelectTheBody : Prop :=
  (let ll := List.replicate 144 8 ++ List.replicate 112 9 ++ List.replicate 24 7 ++ List.replicate 8 8
   let d := List.replicate 32 5
   fixedTreeLL = treeOf ll ∧ fixedTreeD = treeOf d ∧
   assignCodes ll = (List.range 144).map (0x30 + ·) ++ (List.range 112).map (0x190 + ·) ++ List.range 24 ++
     (List.range 8).map (0xC0 + ·) ∧
   assignCodes d = List.range 32) ∧
  ∀ (s : State) (f : Bool),
    exec (.dflBlockStored f) s = .next
      { s with unp := { s.unp with bfinal := f, btype := 0 }, want := .dflStored } ∧
    exec (.dflBlockDynamic f) s = .next
      { s with unp := { s.unp with bfinal := f, btype := 2 }, want := .dflDyn } ∧
    (∃ t, exec (.dflBlockFixed f) s = .next t ∧
      t = { s with unp := { s.unp with bfinal := f, btype := 1 }, want := .llSym, tabs := t.tabs } ∧
      t.tabs.treeLL = fixedTreeLL ∧ t.tabs.treeD = fixedTreeD ∧ t.tabs.lenCL = s.tabs.lenCL ∧
      t.tabs.codeCL = s.tabs.codeCL)

/-- Taking a failure: what is closed, dropped and recorded, and the codes of every kind and detail; outside a session nothing happens (R440, R433, R443, R396, R431, R432).
The bounds of the two free counters are log entry 5. -/
def Obligations.FailureEntry : Prop :=
  (let table : List (Detail × BitVec 4 × BitVec 8) :=
     [(.eof, 1, 0x01), (.zlibBadCm, 2, 0x10), (.zlibBadCinfo, 2, 0x11), (.zlibBadFcheck, 2, 0x12),
      (.gzipBadMagic, 2, 0x18), (.gzipBadCm, 2, 0x19), (.gzipReservedFlg, 2, 0x1A), (.gzipBadHcrc, 2, 0x1B),
      (.dflBadBtype, 2, 0x20), (.dflStoredLen, 2, 0x21), (.dflBadCounts, 2, 0x22), (.dflClOversub, 2, 0x23),
      (.dflBadRepeat, 2, 0x24), (.dflLlOversub, 2, 0x25), (.dflDOversub, 2, 0x26), (.dflNoEob, 2, 0x27),
      (.hufNoCode, 2, 0x28), (.dflBadLlsym, 2, 0x29), (.dflBadDsym, 2, 0x2A), (.dflDistTooFar, 2, 0x2B),
      (.lz4BadMagic, 2, 0x30), (.lz4BadVersion, 2, 0x31), (.lz4Reserved, 2, 0x32), (.lz4BadBlockmax, 2, 0x33),
      (.lz4BadHc, 2, 0x34), (.lz4BlockTooBig, 2, 0x35), (.lz4BadOffset, 2, 0x36), (.lz4BadSeq, 2, 0x37),
      (.lz4OutTooBig, 2, 0x38), (.lz4ContentSize, 2, 0x39), (.snpBadVarint, 2, 0x40), (.snpBadOffset, 2, 0x41),
      (.snpOverrun, 2, 0x42), (.trailingBytes, 2, 0x4F), (.zlibAdler, 3, 0x50), (.gzipCrc, 3, 0x51),
      (.gzipIsize, 3, 0x52), (.lz4BlockCk, 3, 0x53), (.lz4ContentCk, 3, 0x54), (.zstdCodec, 4, 0x60),
      (.zlibFdict, 4, 0x61), (.windowTooLarge, 4, 0x62), (.distBeyondWindow, 4, 0x63), (.lz4Dictid, 4, 0x64),
      (.lz4Linked, 4, 0x65), (.lz4Skippable, 4, 0x66), (.snpInputTooLong, 4, 0x67), (.cfgCodec, 6, 0x70),
      (.cfgCksel, 6, 0x71), (.cfgTree, 6, 0x72), (.cfgBlock, 6, 0x73), (.cfgEngines, 6, 0x74),
      (.cfgWindow, 6, 0x75), (.engineFault, 5, 0x80)]
   ∀ d : Detail, (d, kindCode (detailKind d), detailCode d) ∈ table) ∧
  ∀ (s : State) (k : BitVec 4) (d : BitVec 8) (e : Nat) (b : Word),
    (busy s = true → FailedWith k d e b s (failWith k d e b s) ∧
      (failWith k d e b s).unp = s.unp ∧ (failWith k d e b s).tabs = s.tabs ∧ (failWith k d e b s).rdQ = s.rdQ ∧
      (failWith k d e b s).lz4flg = s.lz4flg ∧
      ∀ (k' : BitVec 4) (d' : BitVec 8) (e' : Nat) (b' : Word),
        failWith k' d' e' b' (failWith k d e b s) = failWith k d e b s) ∧
    (busy s = false → failWith k d e b s = s)

/-- A token of reserved kind is refused; an illegal block type or symbol and a skippable magic take their failure (R92, R125, R256, R264, R265, R321, R440). -/
def Obligations.IllegalElementsStopOrFail : Prop :=
  (∀ (x : BitVec 38) (s : State), exec (.tokenReserved x) s = .refused .reservedToken) ∧
  ∀ (s : State) (f : Bool) (a : BitVec 1) (m : BitVec 4), busy s = true → s.nextCollect = s.nextCut →
    (∃ t, exec (.dflBlockReserved f) s = .next t ∧ FailedAs .dflBadBtype s t) ∧
    (∃ t, exec (.llIllegal a) s = .next t ∧ FailedAs .dflBadLlsym s t) ∧
    (∃ t, exec (.dIllegal a) s = .next t ∧ FailedAs .dflBadDsym s t) ∧
    (∃ t, exec (.lz4MagicSkippable m) s = .next t ∧ FailedAs .lz4Skippable s t)

/-- A stored body outputs its bytes when NLEN is the complement of LEN, and otherwise fails before any (R257).
That all but the last byte produced is released in stream mode is log entry 16. -/
def Obligations.StoredBodyIsCopied : Prop :=
  (∀ (len nlen : BitVec 16) (data : List Byte) (s : State),
    (nlen = len ^^^ 0xFFFF#16 → s.unp.produced.toNat + data.length < 2 ^ 64 →
      ∃ u t, Produces data s u ∧ exec (.dflStoredBody len nlen data) s = .next t ∧
        t = (if s.unp.bfinal then { u with unp := alignIn u.unp, phase := .trailer, want := trailerWant (codec s) }
             else { u with want := .dflHdr })) ∧
    (nlen ≠ len ^^^ 0xFFFF#16 → busy s = true → s.nextCollect = s.nextCut →
      ∃ t, exec (.dflStoredBody len nlen data) s = .next t ∧ FailedAs .dflStoredLen s t)) ∧
  (∀ (pad : List Bool) (len nlen : BitVec 16) (body : List Byte), pad.length < 8 →
    decode (.dflStored pad.length) (pad ++ bitsOfBytes (leBytes 2 len.toNat ++ leBytes 2 nlen.toNat ++ body)) =
      if nlen = len ^^^ 0xFFFF#16 then
        (if body.length < len.toNat then .short
         else .ok (.dflStoredBody len nlen (body.take len.toNat)) (bitsOfBytes (body.drop len.toNat)))
      else .ok (.dflStoredBody len nlen []) (bitsOfBytes body)) ∧
  (∀ (pad : List Bool) (few : List Byte), pad.length < 8 → few.length < 4 →
    decode (.dflStored pad.length) (pad ++ bitsOfBytes few) = .short)

/-- A dynamic header loads the code-length tree, or fails on its counts before its lengths (R258, R259, R268, R107). -/
def Obligations.DynamicHeaderIsChecked : Prop :=
  (∀ cl : List Nat, (clLensOf cl).length = 19 ∧
    ∀ j, j < 19 → (clLensOf cl).getD ([16, 17, 18, 0, 8, 7, 9, 6, 10, 5, 11, 4, 12, 3, 13, 2, 14, 1, 15].getD j 0) 0 = cl.getD j 0) ∧
  ∀ (hlit hdist : BitVec 5) (hclen : BitVec 4) (cl : List (BitVec 3)) (s : State),
    let lens := clLensOf (cl.map BitVec.toNat)
    (286 < hlit.toNat + 257 ∨ 30 < hdist.toNat + 1 → busy s = true → s.nextCollect = s.nextCut →
      ∃ t, exec (.dflDynHeader hlit hdist hclen cl) s = .next t ∧ FailedAs .dflBadCounts s t) ∧
    (hlit.toNat + 257 ≤ 286 → hdist.toNat + 1 ≤ 30 → 2 ^ 7 < kraft 7 lens → busy s = true →
      s.nextCollect = s.nextCut →
      ∃ t, exec (.dflDynHeader hlit hdist hclen cl) s = .next t ∧ FailedAs .dflClOversub s t) ∧
    (hlit.toNat + 257 ≤ 286 → hdist.toNat + 1 ≤ 30 → kraft 7 lens ≤ 2 ^ 7 →
      ∃ t, exec (.dflDynHeader hlit hdist hclen cl) s = .next t ∧
        t = { s with unp := { s.unp with hlit := hlit, hdist := hdist, hclen := hclen }, tabs := t.tabs, rdQ := [],
                     want := .clSym } ∧
        t.tabs = { s.tabs with lenCL := t.tabs.lenCL, codeCL := t.tabs.codeCL } ∧ t.tabs.treeCL.lens = lens ∧
        (∀ a, a < 19 → lens.getD a 0 ≠ 0 → t.tabs.treeCL.codes.getD a 0 = (assignCodes lens).getD a 0))

/-- A literal produces its byte, the end-of-block symbol ends the block, a length symbol holds its length (R263, R180, R255, R267, R104).
That all but the last byte produced is released in stream mode is log entry 16. -/
def Obligations.LiteralLengthSymbols : Prop :=
  (∀ (b : Byte) (s : State),
    (∃ t, exec (.llLiteral b) s = .next t ∧ Produces [b] s t) ∧
    (s.unp.bfinal = false → exec .llEob s = .next { s with want := .dflHdr }) ∧
    (s.unp.bfinal = true → exec .llEob s = .next
      { s with phase := .trailer
               unp := { s.unp with bitpos := 0, cur := if s.unp.bitpos = 0 then s.unp.cur else s.unp.cur + 1 }
               want := if codec s = .zlib then .zlibTrl else if codec s = .gzip then .gzipTrl else .trailing })) ∧
  (∀ (k e : Nat) (s : State), 257 ≤ k → k ≤ 285 → e < 2 ^ lenExtra k →
    ∃ i, llInstr k e = some i ∧ i.symbol = k ∧
      exec i s = .next { s with rdLen := lenBase k + e, want := .dSym })

/-- Each of the 30 distance symbols copies the held length from its distance, after the two tests in order (R105, R263, R266, R181).
That all but the last byte produced is released in stream mode is log entry 16. -/
def Obligations.DistanceSymbolsCopy : Prop :=
  ∀ (k e : Nat) (s : State), k ≤ 29 → e < 2 ^ distExtra k →
    ∃ i, dInstr k e = some i ∧ i.symbol = k ∧
      (distBase k + e ≤ s.unp.produced.toNat → distBase k + e ≤ windowBytes s → WindowFilled s.unp →
        s.unp.produced.toNat + s.rdLen < 2 ^ 64 →
        ∃ (bs : List Byte) (u : State), exec i s = .next { u with want := .llSym } ∧ bs.length = s.rdLen ∧
          Produces bs s u ∧
          ∀ j, j < s.rdLen → u.unp.outwin.read (s.unp.produced.toNat + j) =
            u.unp.outwin.read (s.unp.produced.toNat + j - (distBase k + e))) ∧
      (s.unp.produced.toNat < distBase k + e → busy s = true → s.nextCollect = s.nextCut →
        ∃ t, exec i s = .next t ∧ FailedAs .dflDistTooFar s t) ∧
      (distBase k + e ≤ s.unp.produced.toNat → windowBytes s < distBase k + e → busy s = true →
        s.nextCollect = s.nextCut → ∃ t, exec i s = .next t ∧ FailedAs .distBeyondWindow s t)

/-- Each code-length symbol appends its lengths to Q while lengths are still missing, and a repeat past the end fails (R108, R260, R268). -/
def Obligations.CodeLengthSymbolsExtendQ : Prop :=
  (∀ (tr : Tree) (bs r : List Bool), decSym tr bs = .sym 16 r →
    decode (.clSym tr true) bs = .bad .dflBadRepeat ∧
    decode (.clSym tr false) bs =
      (if r.length < 2 then .short else .ok (.clRepPrev (BitVec.ofNat 2 (natOfBits (r.take 2)))) (r.drop 2))) ∧
  ∀ (s : State),
    (wantCtx { s with want := .clSym } = some (.clSym s.tabs.treeCL (s.rdQ == []))) ∧
    let total := s.unp.hlit.toNat + s.unp.hdist.toNat + 258
    (∀ k, k ≤ 15 → ∃ i, clInstr k 0 = some i ∧ i.symbol = k ∧
      (s.rdQ.length + 1 < total → exec i s = .next { s with rdQ := s.rdQ ++ [BitVec.ofNat 4 k] })) ∧
    (∀ e : BitVec 2,
      (∀ v, s.rdQ.getLast? = some v → s.rdQ.length + (3 + e.toNat) < total →
        exec (.clRepPrev e) s = .next { s with rdQ := s.rdQ ++ List.replicate (3 + e.toNat) v }) ∧
      (busy s = true → s.nextCollect = s.nextCut → (s.rdQ = [] ∨ total < s.rdQ.length + (3 + e.toNat)) →
        ∃ t, exec (.clRepPrev e) s = .next t ∧ FailedAs .dflBadRepeat s t)) ∧
    (∀ e : BitVec 3,
      (s.rdQ.length + (3 + e.toNat) < total →
        exec (.clRepZeroShort e) s = .next { s with rdQ := s.rdQ ++ List.replicate (3 + e.toNat) 0 }) ∧
      (busy s = true → s.nextCollect = s.nextCut → total < s.rdQ.length + (3 + e.toNat) →
        ∃ t, exec (.clRepZeroShort e) s = .next t ∧ FailedAs .dflBadRepeat s t)) ∧
    (∀ e : BitVec 7,
      (s.rdQ.length + (11 + e.toNat) < total →
        exec (.clRepZeroLong e) s = .next { s with rdQ := s.rdQ ++ List.replicate (11 + e.toNat) 0 }) ∧
      (busy s = true → s.nextCollect = s.nextCut → total < s.rdQ.length + (11 + e.toNat) →
        ∃ t, exec (.clRepZeroLong e) s = .next t ∧ FailedAs .dflBadRepeat s t))

/-- The code-length symbol or repeat that completes Q loads both tables and makes the three checks in order (R260, R261, R208, R77, R108). -/
def Obligations.LastCodeLengthLoadsTheTables : Prop :=
  ∀ (s : State) (i : Instr) (v : BitVec 4) (n : Nat), busy s = true → s.nextCollect = s.nextCut →
    s.unp.hlit.toNat ≤ 29 → s.unp.hdist.toNat ≤ 29 →
    (clInstr v.toNat 0 = some i ∧ n = 1 ∨
     (∃ e : BitVec 2, i = .clRepPrev e ∧ s.rdQ.getLast? = some v ∧ n = 3 + e.toNat) ∨
     (∃ e : BitVec 3, i = .clRepZeroShort e ∧ v = 0 ∧ n = 3 + e.toNat) ∨
     (∃ e : BitVec 7, i = .clRepZeroLong e ∧ v = 0 ∧ n = 11 + e.toNat)) →
    s.rdQ.length + n = s.unp.hlit.toNat + s.unp.hdist.toNat + 258 →
    let q := s.rdQ.map BitVec.toNat ++ List.replicate n v.toNat
    let nll := s.unp.hlit.toNat + 257
    let ll := q.take nll ++ List.replicate (288 - nll) 0
    let d := q.drop nll ++ List.replicate (32 - (s.unp.hdist.toNat + 1)) 0
    ∃ t, exec i s = .next t ∧ t.tabs.treeLL.lens = ll ∧ t.tabs.treeD.lens = d ∧
      (if ll.getD 256 0 = 0 then FailedAs .dflNoEob s t
       else if 2 ^ 15 < kraft 15 ll then FailedAs .dflLlOversub s t
       else if 2 ^ 15 < kraft 15 d then FailedAs .dflDOversub s t
       else t = { s with rdQ := s.rdQ ++ List.replicate n v, tabs := t.tabs, want := .llSym } ∧
        t.tabs.lenCL = s.tabs.lenCL ∧ t.tabs.codeCL = s.tabs.codeCL ∧
        (∀ a, ll.getD a 0 ≠ 0 → t.tabs.treeLL.codes.getD a 0 = (assignCodes ll).getD a 0) ∧
        ∀ a, d.getD a 0 ≠ 0 → t.tabs.treeD.codes.getD a 0 = (assignCodes d).getD a 0)

/-- The zlib header passes or fails its five tests in order (R283). -/
def Obligations.ZlibHeaderIsChecked : Prop :=
  (∀ (cmf flg : Byte) (s : State), busy s = true → s.nextCollect = s.nextCut →
    ∃ t, exec (.zlibHeader cmf flg) s = .next t ∧
      if cmf.toNat % 16 ≠ 8 then FailedAs .zlibBadCm s t
      else if 7 < cmf.toNat / 16 then FailedAs .zlibBadCinfo s t
      else if (cmf.toNat * 256 + flg.toNat) % 31 ≠ 0 then FailedAs .zlibBadFcheck s t
      else if flg.getLsbD 5 = true then FailedAs .zlibFdict s t
      else if s.scfg.windowKib.toNat * 1024 < 2 ^ (cmf.toNat / 16 + 8) then FailedAs .windowTooLarge s t
      else t = { s with phase := .body, want := .dflHdr }) ∧
  (∀ few : List Byte, few.length < 2 → decode .zlibHdr (bitsOfBytes few) = .short)

/-- The GZIP header passes or fails its tests in order; its optional fields change nothing (R288, R113).
That a CRC16 announced and absent is the end of the stream is log entry 18. -/
def Obligations.GzipHeaderIsChecked : Prop :=
  ∀ (id1 id2 cm flg : Byte) (mtime : Word) (xfl os : Byte) (x n c : Option (List Byte)) (h : Option (BitVec 16))
    (s : State), busy s = true → s.nextCollect = s.nextCut →
    ∃ t, exec (.gzipHeader id1 id2 cm flg mtime xfl os x n c h) s = .next t ∧
      if id1 ≠ 0x1F ∨ id2 ≠ 0x8B then FailedAs .gzipBadMagic s t
      else if cm ≠ 8 then FailedAs .gzipBadCm s t
      else if flg.toNat / 32 ≠ 0 then FailedAs .gzipReservedFlg s t
      else if flg.getLsbD 1 = true ∧ h = none then FailedAs .eof s t
      else if flg.getLsbD 1 = true ∧ h ≠ some ((crc32 (s.strm.take (s.unp.cur.toNat - 2))).setWidth 16) then
        FailedAs .gzipBadHcrc s t
      else t = { s with phase := .body, want := .dflHdr }

/-- The zlib, GZIP and LZ4 trailers are compared with what was output (R284, R289, R330). -/
def Obligations.TrailersAreCompared : Prop :=
  ∀ (v n : Word) (isize : Option Word) (s : State),
    (v = adlerFin s.adler → exec (.zlibTrailer v) s = .next { s with want := .trailing }) ∧
    (v = xxh32 s.params.xxh s.content → exec (.lz4ContentChecksum v) s = .next { s with want := .trailing }) ∧
    (v = crcFin s.crc → n.toNat = s.unp.produced.toNat % 2 ^ 32 →
      exec (.gzipTrailer v (some n)) s = .next { s with want := .trailing }) ∧
    (busy s = true → s.nextCollect = s.nextCut →
      (v ≠ adlerFin s.adler → ∃ t, exec (.zlibTrailer v) s = .next t ∧ FailedAs .zlibAdler s t) ∧
      (v ≠ xxh32 s.params.xxh s.content →
        ∃ t, exec (.lz4ContentChecksum v) s = .next t ∧ FailedAs .lz4ContentCk s t) ∧
      (v ≠ crcFin s.crc → ∃ t, exec (.gzipTrailer v isize) s = .next t ∧ FailedAs .gzipCrc s t) ∧
      (v = crcFin s.crc → n.toNat ≠ s.unp.produced.toNat % 2 ^ 32 →
        ∃ t, exec (.gzipTrailer v (some n)) s = .next t ∧ FailedAs .gzipIsize s t))

/-- The LZ4 magic is read and leads to the descriptor, and the descriptor passes or fails its tests in order (R321, R322, R323, R115).
That a part announced and absent is the end of the stream is log entry 18. -/
def Obligations.Lz4FrameHeaderIsChecked : Prop :=
  (∀ (m : Word) (rest : List Byte),
    decode .lz4Magic (bitsOfBytes (leBytes 4 m.toNat ++ rest)) =
      if m = 0x184D2204 then .ok .lz4Magic (bitsOfBytes rest)
      else if 0x184D2A50 ≤ m.toNat ∧ m.toNat ≤ 0x184D2A5F then
        .ok (.lz4MagicSkippable (m.setWidth 4)) (bitsOfBytes rest)
      else if m = 0x184C2102 then .bad .lz4Skippable else .bad .lz4BadMagic) ∧
  (∀ few : List Byte, few.length < 4 → decode .lz4Magic (bitsOfBytes few) = .short) ∧
  ∀ (s : State) (flg : Byte) (bd hc : Option Byte) (cs : Option (BitVec 64)) (di : Option Word),
    exec .lz4Magic s = .next { s with want := .lz4Desc } ∧
    (busy s = true → s.nextCollect = s.nextCut →
      ∃ t, exec (.lz4Descriptor flg bd cs di hc) s = .next t ∧
        if flg.toNat / 64 ≠ 1 then FailedAs .lz4BadVersion s t
        else if flg.getLsbD 1 = true then FailedAs .lz4Reserved s t
        else match bd with
          | none => FailedAs .eof s t
          | some b =>
            if b.getLsbD 7 = true ∨ b.toNat % 16 ≠ 0 then FailedAs .lz4Reserved s t
            else if b.toNat / 16 % 8 < 4 then FailedAs .lz4BadBlockmax s t
            else match hc with
              | none => FailedAs .eof s t
              | some c =>
                if c.toNat ≠ (xxh32 s.params.xxh ((s.strm.take (s.unp.cur.toNat - 1)).drop 4)).toNat / 256 % 256 then
                  FailedAs .lz4BadHc s t
                else if flg.getLsbD 0 = true then FailedAs .lz4Dictid s t
                else if flg.getLsbD 5 = false then FailedAs .lz4Linked s t
                else t = { s with phase := .body, want := .lz4Blk, lz4flg := flg, unp := t.unp } ∧
                  t.unp = { s.unp with blkmax := t.unp.blkmax, declared := cs.getD s.unp.declared } ∧
                  t.unp.blkmax.toNat = (if b.toNat / 16 % 8 = 4 then 65536 else if b.toNat / 16 % 8 = 5 then 262144
                    else if b.toNat / 16 % 8 = 6 then 1048576 else 4194304))

/-- An LZ4 data block within the maximum is queued, the 2^32-th refused; a larger one fails, after the blocks before it; the end mark ends them (R324, R398, R399, R486).
Where a failure is held is log entry 15; `UNIT.START` and `UNIT.ISFINAL` are log entries 11 and 28; that the step which
would queue block 0xFFFFFFFF refuses is log entry 20. -/
def Obligations.Lz4BlocksAreQueued : Prop :=
  (∀ (s : State) (rest : List Turn) (d : Detail), s.agenda = .agent .sequencer :: rest → busy s = true →
    s.dir = .decompress → ¬ (s.cancelReq = true ∧ hasUnits s = false) → s.deferred = some d →
    ∃ t, step s = .next t ∧
      (if s.nextCollect = s.nextCut then FailedAs d { s with agenda := rest } t else t = { s with agenda := rest })) ∧
  ∀ (s : State) (stored : Bool) (size : BitVec 31) (data : List Byte) (ck : Option Word),
    let i : Instr := if stored then .lz4BlockStored size data ck else .lz4BlockCompressed size data ck
    exec .lz4Endmark s = .next { s with want := .lz4Drain } ∧
    (size.toNat ≤ s.unp.blkmax.toNat → (s.lz4flg.getLsbD 4 = true → ck.isSome = true) → s.nextCut ≠ 0xFFFFFFFF →
      ∃ t w, exec i s = .next t ∧
        t = { s with nextCut := s.nextCut + 1, blockQ := s.blockQ ++ [w], want := .lz4Blk } ∧
        w.bytes = data ∧ w.stored = stored ∧ w.ck = (if s.lz4flg.getLsbD 4 = true then ck else none)) ∧
    (size.toNat ≤ s.unp.blkmax.toNat → (s.lz4flg.getLsbD 4 = true → ck.isSome = true) → s.nextCut = 0xFFFFFFFF →
      exec i s = .refused .tooManyBlocks) ∧
    (s.unp.blkmax.toNat < size.toNat → busy s = true → s.nextCollect = s.nextCut →
      ∃ t, exec i s = .next t ∧ FailedAs .lz4BlockTooBig s t) ∧
    (s.unp.blkmax.toNat < size.toNat → busy s = true → s.nextCollect ≠ s.nextCut →
      exec i s = .next { s with deferred := some .lz4BlockTooBig, want := .nothing })

/-- An LZ4 sequence is read from its bytes, outputs its literals and copies its match in its engine, or ends in the first failure of its tests (R325, R326, R327, R328, R329, R117, R118).
That a sequence cut short after its literals is an element without a match part is log entry 18; what else a failed
unit's result holds is log entry 21. -/
def Obligations.Lz4SequencesDecode : Prop :=
  (∀ (s : State) (g : Engine) (lits : List Byte) (off : BitVec 16) (m : Nat),
    s.engines[s.actor]? = some g → WindowFilled g.unp → g.unp.produced.toNat + lits.length + (m + 4) < 2 ^ 64 →
    let p := g.unp.produced.toNat + lits.length
    let failed := fun (d : Detail) (h : Engine) => h.st = .failed ∧ h.result.errcode = kindCode (detailKind d) ∧
      h.result.detail = detailCode d
    let grew := fun (n : Nat) (h : Engine) => ∃ bs : List Byte, bs.length = n ∧
      h.result.bytes = g.result.bytes ++ lits ++ bs ∧ h.unp.produced.toNat = p + n ∧
      h.outlen = g.outlen + BitVec.ofNat 32 (lits.length + n) ∧
      h.unp = { g.unp with outwin := h.unp.outwin, produced := h.unp.produced } ∧
      (∀ a, a < g.unp.produced.toNat → h.unp.outwin.read a = g.unp.outwin.read a) ∧
      (∀ k, k < lits.length → h.unp.outwin.read (g.unp.produced.toNat + k) = lits[k]?) ∧
      (∀ k, k < n → h.unp.outwin.read (p + k) = bs[k]? ∧
        h.unp.outwin.read (p + k) = h.unp.outwin.read (p + k - off.toNat))
    (∃ t h, exec (.lz4Sequence lits (some (off, m))) s = .next t ∧ EngineBecomes s.actor h s t ∧
      if g.unp.blkmax.toNat < p then failed .lz4OutTooBig h
      else if off = 0 ∨ p < off.toNat then failed .lz4BadOffset h
      else if windowBytes s < off.toNat then failed .distBeyondWindow h
      else if g.unp.blkmax.toNat < p + (m + 4) then failed .lz4OutTooBig h
      else grew (m + 4) h ∧ h = { g with unp := h.unp, outlen := h.outlen,
                                         result := { g.result with bytes := h.result.bytes } }) ∧
    (∃ t h, exec (.lz4LastSequence lits) s = .next t ∧ EngineBecomes s.actor h s t ∧
      if g.unp.blkmax.toNat < p then failed .lz4OutTooBig h
      else grew 0 h ∧ h.st = .done ∧ h.result.errcode = 0 ∧ h.result.index = g.unit.index ∧
        h.result.csize = h.outlen ∧
        h = { g with st := h.st, unp := h.unp, outlen := h.outlen, result := h.result }) ∧
    (∃ t h, exec (.lz4Sequence lits none) s = .next t ∧ EngineBecomes s.actor h s t ∧
      if g.unp.blkmax.toNat < p then failed .lz4OutTooBig h else failed .lz4BadSeq h)) ∧
  decode .lz4Seq [] = .bad .lz4BadSeq ∧
  (∀ (t : Byte) (n : Nat), t.toNat / 16 = 15 →
    decode .lz4Seq (bitsOfBytes (t :: List.replicate n 255)) = .bad .lz4BadSeq) ∧
  (∀ (t : Byte) (esc lits : List Byte) (ll : Nat), Lz4LengthBytes (t.toNat / 16) esc ll →
    (lits.length < ll → decode .lz4Seq (bitsOfBytes (t :: esc ++ lits)) = .bad .lz4BadSeq) ∧
    (lits.length = ll →
      decode .lz4Seq (bitsOfBytes (t :: esc ++ lits)) = .ok (.lz4LastSequence lits) [] ∧
      (∀ o : Byte, decode .lz4Seq (bitsOfBytes (t :: esc ++ lits ++ [o])) = .ok (.lz4Sequence lits none) []) ∧
      (∀ (o0 o1 : Byte) (n : Nat), t.toNat % 16 = 15 →
        decode .lz4Seq (bitsOfBytes (t :: esc ++ lits ++ [o0, o1] ++ List.replicate n 255)) =
          .ok (.lz4Sequence lits none) []) ∧
      (∀ (o0 o1 : Byte) (esc' rest : List Byte) (m : Nat), Lz4LengthBytes (t.toNat % 16) esc' m →
        decode .lz4Seq (bitsOfBytes (t :: esc ++ lits ++ [o0, o1] ++ esc' ++ rest)) =
          .ok (.lz4Sequence lits (some (BitVec.ofNat 16 (o0.toNat + 256 * o1.toNat), m))) (bitsOfBytes rest))))

/-- The Snappy preamble gives the declared length, or fails on its fifth byte (R358). -/
def Obligations.SnappyPreambleDeclares : Prop :=
  (∀ (bs : List Byte) (s : State), bs.length ≤ 5 →
    ((bs.getD 4 0).toNat ≤ 0x0F →
      ∃ t, exec (.snpPreamble bs) s = .next t ∧
        t = { s with phase := .body, want := .snpTag, unp := t.unp } ∧
        t.unp = { s.unp with declared := t.unp.declared, produced := 0, outwin := t.unp.outwin } ∧
        t.unp.declared.toNat = (List.range bs.length).foldl
          (fun v k => v ||| (((bs.getD k 0).toNat &&& 127) <<< (7 * k))) 0) ∧
    (0x0F < (bs.getD 4 0).toNat → busy s = true → s.nextCollect = s.nextCut →
      ∃ t, exec (.snpPreamble bs) s = .next t ∧ FailedAs .snpBadVarint s t)) ∧
  (∀ (bs rest : List Byte), bs ≠ [] → bs.length ≤ 5 → (∀ k, k + 1 < bs.length → 128 ≤ (bs.getD k 0).toNat) →
    (bs.length = 5 ∨ (bs.getD (bs.length - 1) 0).toNat < 128) →
    decode .snpPre (bitsOfBytes (bs ++ rest)) = .ok (.snpPreamble bs) (bitsOfBytes rest)) ∧
  (∀ bs : List Byte, bs.length < 5 → (∀ k, k < bs.length → 128 ≤ (bs.getD k 0).toNat) →
    decode .snpPre (bitsOfBytes bs) = .short)

/-- A Snappy literal or copy makes its tests in order and produces its bytes (R360, R361, R121, R122, R181).
That all but the last byte produced is released in stream mode is log entry 16. -/
def Obligations.SnappyElementsAreChecked : Prop :=
  (∀ (m : BitVec 6) (ext data : List Byte) (s : State),
    (data.length = snpLitLen m ext → s.unp.produced.toNat + snpLitLen m ext ≤ s.unp.declared.toNat →
      ∃ t, exec (.snpLiteral m ext data) s = .next t ∧ Produces data s t) ∧
    (s.unp.declared.toNat < s.unp.produced.toNat + snpLitLen m ext → busy s = true → s.nextCollect = s.nextCut →
      ∃ t, exec (.snpLiteral m ext data) s = .next t ∧ FailedAs .snpOverrun s t)) ∧
  ∀ (s : State) (i : Instr) (o l : Nat), busy s = true → s.nextCollect = s.nextCut → WindowFilled s.unp →
    ((∃ (a : BitVec 3) (b : BitVec 11), i = .snpCopy1 a b ∧ o = b.toNat ∧ l = a.toNat + 4) ∨
     (∃ (a : BitVec 6) (b : BitVec 16), i = .snpCopy2 a b ∧ o = b.toNat ∧ l = a.toNat + 1) ∨
     (∃ (a : BitVec 6) (b : BitVec 32), i = .snpCopy4 a b ∧ o = b.toNat ∧ l = a.toNat + 1)) →
    ∃ t, exec i s = .next t ∧
      if o = 0 ∨ s.unp.produced.toNat < o then FailedAs .snpBadOffset s t
      else if windowBytes s < o then FailedAs .distBeyondWindow s t
      else if s.unp.declared.toNat < s.unp.produced.toNat + l then FailedAs .snpOverrun s t
      else ∃ bs : List Byte, bs.length = l ∧ Produces bs s t ∧
        ∀ j, j < l → t.unp.outwin.read (s.unp.produced.toNat + j) = t.unp.outwin.read (s.unp.produced.toNat + j - o)

/-- A step runs the element its turn decodes, moved past its bits; a cut or bad element fails or waits (a held failure: log entry 15) (R25, R62, R72, R215, R268, R387, R399).
Where a failure raised while LZ4 blocks are uncollected is held (`Raised`) is the model's choice, log entry 15.
Where the cursor stands after a read that waits or fails is the model's choice, log entry 32, and what the registers of
a cut element hold then is log entry 35. -/
def Obligations.StepRunsTheDecodedElement : Prop :=
  (∀ (s : State) (rest : List Turn) (c : Ctx), SequencerReads s rest c →
    match decode c (unreadBits s.unp s.strm) with
    | .ok i r =>
      step s = exec i { s with agenda := rest, unp := moveTo s.strm.length r.length s.unp } ∧
      (s.strm.length < 2 ^ 64 →
        ∃ read : List Bool, MovedPast read r s.strm s.unp (moveTo s.strm.length r.length s.unp))
    | .short =>
      if s.inEnded then ∃ t, step s = .next t ∧ Raised .eof { s with agenda := rest } t
      else step s = .next { s with agenda := rest }
    | .bad d => ∃ t, step s = .next t ∧ Raised d { s with agenda := rest } t
    | .illegal => step s = .refused .illegalWord) ∧
  (∀ (tr : Tree) (bs : List Bool) (q : Bool),
    (decSym tr bs = .noCode → decode (.llSym tr) bs = .bad .hufNoCode ∧ decode (.dSym tr) bs = .bad .hufNoCode ∧
      decode (.clSym tr q) bs = .bad .hufNoCode) ∧
    (decSym tr bs = .short → decode (.llSym tr) bs = .short ∧ decode (.dSym tr) bs = .short ∧
      decode (.clSym tr q) bs = .short)) ∧
  (∀ (s : State) (rest : List Turn), s.agenda = .agent .sequencer :: rest → s.phase = .header →
    s.dir = .decompress → s.want = .dflHdr → s.deferred = none → ¬ (s.cancelReq = true ∧ hasUnits s = false) →
    step s = .next { s with agenda := rest, phase := .body }) ∧
  (∀ (s : State) (rest : List Turn) (e : Nat) (g : Engine) (w : BitVec 40) (i : Instr) (r : List Bool),
    EngineMoves s rest e g → (g.job = .count ∨ g.job = .pack) → g.tokbuf[g.tokRd]? = some w →
    decode .token (natBits 40 w.toNat) = .ok i r →
    step s = exec i { s with agenda := rest, engines := s.engines.set e { g with tokRd := g.tokRd + 1 }, actor := e })

/-- A step runs a CTRL write, the fields of a CFG write (log entry 10), the oldest beat, the next LZ4 sequence or its failure, and the two port operations (R34, R380, R62, R61, R325, R95, R68, R441, R329).
The five field turns of a `CFG` write are the model's choice, log entry 10; `readData` is the model's record of what the
host has read (log entry 25); what else a failed unit's result holds is log entry 21.
That an engine's `CUR` counts inside its block is log entry 34, where it stands after a failed read log entry 32. -/
def Obligations.StepRunsHostAndInputElements : Prop :=
  (∀ (s : State) (rest : List Turn) (v : Word), s.agenda = .host (.write 32 0 v) :: rest →
    step s = exec (cmdInstr (v.toNat % 16)) { s with agenda := rest }) ∧
  (∀ (s : State) (rest : List Turn) (v : Word), s.agenda = .host (.write 32 8 v) :: rest →
    step s = .next { s with agenda := [.cfgField .codec v, .cfgField .cksel v, .cfgField .treeMode v,
                                       .cfgField .isLazy v, .cfgField .iomode v] ++ rest }) ∧
  (∀ (s : State) (rest : List Turn) (f : CfgField) (v : Word), s.agenda = .cfgField f v :: rest →
    step s = exec (cfgInstr f (fieldOf v f.pos f.width)) { s with agenda := rest }) ∧
  (∀ (s : State) (rest : List Turn) (b : Beat) (q : List Beat) (i : Instr), s.agenda = .agent .intake :: rest →
    (0 < s.discard ∨ busy s = true ∧ s.inEnded = false) → s.inp = b :: q → beatElem b = some i →
    step s = exec i { s with agenda := rest, inp := q }) ∧
  (∀ (s : State) (rest : List Turn) (e : Nat) (g : Engine) (bs : List Byte) (i : Instr) (r : List Bool),
    EngineMoves s rest e g → g.job = .unpack → BlockIs g bs → decode .lz4Seq (unreadBits g.unp bs) = .ok i r →
    step s = exec i { s with agenda := rest
                             engines := s.engines.set e { g with unp := moveTo bs.length r.length g.unp }
                             actor := e } ∧
    (g.unp.bitpos = 0 → ∃ read : List Bool, MovedPast read r bs g.unp (moveTo bs.length r.length g.unp))) ∧
  (∀ (s : State) (rest : List Turn) (e : Nat) (g : Engine) (bs : List Byte) (d : Detail),
    EngineMoves s rest e g → g.job = .unpack → BlockIs g bs → decode .lz4Seq (unreadBits g.unp bs) = .bad d →
    ∃ t h, step s = .next t ∧ EngineBecomes e h { s with agenda := rest } t ∧ EngineFailed d g h) ∧
  (∀ (s : State) (rest : List Turn) (b : Beat), s.agenda = .host (.send b) :: rest →
    step s = .next { s with agenda := rest, inp := s.inp ++ [b] }) ∧
  (∀ (s : State) (rest : List Turn), s.agenda = .host .take :: rest →
    (s.outp = [] → step s = .next { s with agenda := rest, readData := .nothing }) ∧
    ∀ (b : Beat) (q : List Beat), s.outp = b :: q →
      step s = .next { s with agenda := rest, outp := q, readData := .beat b })

/-- The register window refuses odd accesses, ignores writes to read-only registers, and writes and reads the configuration (R29, R30, R31, R32, R33, R34, R35, U2).
That a write of `CFG` is its five field elements is log entry 10; the extent of the window is log entry 19. -/
def Obligations.RegisterWindow : Prop :=
  ∀ (s : State) (rest : List Turn) (width off : Nat) (v : Word),
    ((width ≠ 32 ∨ off % 4 ≠ 0) →
      step { s with agenda := .host (.write width off v) :: rest } = .refused .badRegisterAccess ∧
      step { s with agenda := .host (.read width off) :: rest } = .refused .badRegisterAccess) ∧
    (off % 4 = 0 → (off = 4 ∨ 0x18 ≤ off) →
      step { s with agenda := .host (.write 32 off v) :: rest } = .next { s with agenda := rest }) ∧
    step { s with agenda := .host (.write 32 0xC v) :: rest } =
      .next { s with agenda := rest, regs := { s.regs with blockKib := v } } ∧
    step { s with agenda := .host (.write 32 0x10 v) :: rest } =
      .next { s with agenda := rest, regs := { s.regs with windowKib := v } } ∧
    step { s with agenda := .host (.write 32 0x14 v) :: rest } =
      .next { s with agenda := rest, regs := { s.regs with engines := v } } ∧
    Sys2Proof.core.run 6 { s with agenda := .host (.write 32 8 v) :: rest } =
      .next { s with agenda := rest
                     regs := { s.regs with cfg := (s.regs.cfg &&& ~~~0x3337#32) ||| (v &&& 0x3337#32) } } ∧
    (off % 4 = 0 → step { s with agenda := .host (.read 32 off) :: rest } =
      .next { s with agenda := rest, readData := .reg (regRead { s with agenda := rest } off), freeIdx := s.freeIdx + 1 }) ∧
    regRead s 0 = 0 ∧ (0x38 ≤ off → regRead s off = 0) ∧ regRead s 4 = statusWord s ∧ regRead s 8 = s.regs.cfg ∧
    regRead s 0xC = s.regs.blockKib ∧ regRead s 0x10 = s.regs.windowKib ∧ regRead s 0x14 = s.regs.engines ∧
    (busy s = false → regRead s 0x18 = s.regs.errinfo ∧ regRead s 0x1C = s.regs.errblock ∧
      regRead s 0x20 = s.regs.cksum ∧ regRead s 0x34 = s.regs.blockCount ∧
      (regRead s 0x24).toNat + 2 ^ 32 * (regRead s 0x28).toNat = s.regs.inCount.toNat ∧
      (regRead s 0x2C).toNat + 2 ^ 32 * (regRead s 0x30).toNat = s.regs.outCount.toNat)

/-- STATUS shows PHASE, DIR and ERRCODE in their places, at most one of its four session bits is 1, and its reserved bits are 0 (R35, R26). -/
def Obligations.StatusWordFields : Prop :=
  ∀ s : State,
    (statusWord s).getLsbD 0 = (s.phase == .header || s.phase == .body || s.phase == .trailer) ∧
    (statusWord s).getLsbD 1 = (s.phase == .done) ∧ (statusWord s).getLsbD 2 = (s.phase == .failed) ∧
    (statusWord s).getLsbD 3 = (s.phase == .cancelled) ∧
    ((statusWord s).toNat % 16 = 0 ↔ s.phase = .idle) ∧
    (statusWord s).getLsbD 4 = (s.dir == .decompress) ∧
    (statusWord s).toNat / 256 % 16 = s.errcode.toNat ∧
    (statusWord s).toNat / 65536 % 8 =
      (match s.phase with
        | .idle => 0
        | .header => 1
        | .body => 2
        | .trailer => 3
        | .done => 4
        | .failed => 5
        | .cancelled => 6) ∧
    (statusWord s).toNat / 65536 % 8 ≠ 7 ∧
    statusWord s &&& 0xFFF8F0E0#32 = 0

/-- The collector takes the result of block NEXT_COLLECT only, after the header, writes it whole, or delivers its failure (R392, R401, R433, R74, R164, R398, R393, R394).
That all but the last byte produced is released in stream mode is log entry 16. -/
def Obligations.CollectsInIndexOrder : Prop :=
  (∀ (s : State) (rest : List Turn),
    (busy s = false ∨ hasUnits s = false ∨ (s.cancelReq = false ∧ s.phase = .header)) →
    step { s with agenda := .agent .collector :: rest } = .next { s with agenda := rest }) ∧
  ∀ (s : State) (rest : List Turn) (g : Engine), busy s = true → hasUnits s = true → s.cancelReq = false →
    s.phase ≠ .header → s.engines[s.nextCollect.toNat % s.scfg.engines.toNat]? = some g →
    let e := s.nextCollect.toNat % s.scfg.engines.toNat
    ∃ t, step { s with agenda := .agent .collector :: rest } = .next t ∧ t.agenda = rest ∧
      (g.unit.index = s.nextCollect → g.st = .done →
        ∃ u, Emits g.result.bytes s u ∧
        t = { u with
          agenda := rest
          nextCollect := s.nextCollect + 1
          regs := { s.regs with blockCount := s.regs.blockCount + 1 }
          engines := s.engines.set e { g with st := .idle }
          crc := if s.dir = .decompress ∧ effectiveCk s = .crc32 then crcUpd s.crc g.result.bytes else s.crc
          adler := if s.dir = .decompress ∧ effectiveCk s = .adler32 then adlerUpd s.adler g.result.bytes else s.adler
          content := if s.dir = .decompress then s.content ++ g.result.bytes else s.content }) ∧
      (g.unit.index = s.nextCollect → g.st = .failed →
        FailedWith g.result.errcode g.result.detail e s.nextCollect { s with agenda := rest } t) ∧
      ((g.unit.index ≠ s.nextCollect ∨ g.st = .idle ∨ g.st = .busy) → t = { s with agenda := rest })

/-- The dispatcher hands the oldest block to engine NEXT_DISPATCH mod N when that engine is idle, and waits otherwise (R390, R398, R171).
When an engine's `BLKMAX` is loaded is the model's choice, log entry 31; what the lookup index holds is log entry 22. -/
def Obligations.DispatchesRoundRobin : Prop :=
  ∀ (s : State) (rest : List Turn) (w : Waiting) (q : List Waiting) (g : Engine), busy s = true →
    s.blockQ = w :: q → w.bytes.length < 2 ^ 23 →
    s.engines[s.nextDispatch.toNat % s.scfg.engines.toNat]? = some g →
    let e := s.nextDispatch.toNat % s.scfg.engines.toNat
    (g.st = .idle → ∃ t h, step { s with agenda := .agent .dispatcher :: rest } = .next t ∧
      t = { s with agenda := rest, blockQ := q, nextDispatch := s.nextDispatch + 1, engines := s.engines.set e h } ∧
      h.st = .busy ∧ h.blklen.toNat = w.bytes.length ∧ BlockFilled h ∧
      (∀ k, h.blkbuf.read k = w.bytes[k]?) ∧
      h.unit = { index := s.nextDispatch, start := w.start, len := h.blklen, isFinal := w.isFinal } ∧
      h = { g with blkbuf := h.blkbuf, blklen := h.blklen, unit := h.unit, st := .busy, job := .start, lookup := h.lookup,
                   pos := 0, moff := 0, mlen := 0, bitacc := 0, bitcnt := 0, outlen := 0, tokbuf := [], tokRd := 0, cov := 0,
                   blkStored := w.stored, blkCk := w.ck, result := { g.result with bytes := [] },
                   unp := { g.unp with blkmax := if s.dir = .compress then g.unp.blkmax else s.unp.blkmax } }) ∧
    (g.st ≠ .idle → step { s with agenda := .agent .dispatcher :: rest } = .next { s with agenda := rest })

/-- An engine's first turn: an engine fault, stored DEFLATE blocks, the LZ4 block checksum, a stored LZ4 block, or the main work (R391, R242, R241, R324, R328, R398, R441, R22, R47).
What else a failed unit's result holds is log entry 21.
That an engine's `CUR` is the cursor of R325, 0 at the start of the block, is log entry 34. -/
def Obligations.EnginesBeginTheirUnit : Prop :=
  ∀ (s : State) (rest : List Turn) (e : Nat) (g : Engine) (bs : List Byte), EngineMoves s rest e g → g.job = .start →
    BlockIs g bs →
    let begun : Engine := { g with unp := { g.unp with cur := 0, bitpos := 0, produced := 0, outwin := [] } }
    let done := fun (m h : Engine) => h = { m with st := .done, result := { m.result with
      usize := g.blklen, csize := m.outlen, index := g.unit.index, isFinal := g.unit.isFinal, errcode := 0, detail := 0 } }
    ∃ t h, step s = .next t ∧ EngineBecomes e h { s with agenda := rest } t ∧
      (if g.unit.index.toNat ∈ s.params.engineFault then EngineFailed .engineFault g h
       else
        (s.dir = .compress → (codec s).isDeflate = true → treeModeOf s.scfg.cfg = 0 → g.bitcnt = 0 →
          let m := max 1 ((bs.length + 65534) / 65535)
          let body := (List.range m).flatMap fun k =>
            let c := (bs.drop (65535 * k)).take 65535
            [if g.unit.isFinal = true ∧ k + 1 = m then 1 else 0] ++ leBytes 2 c.length ++
              leBytes 2 (c.length ^^^ 0xFFFF) ++ c
          ∃ w, done w h ∧ w = { g with tokbuf := [0x8000000000], bitacc := 0,
                                       outlen := g.outlen + BitVec.ofNat 32 body.length,
                                       result := { g.result with bytes := g.result.bytes ++ body } }) ∧
        (s.dir = .compress → ¬ ((codec s).isDeflate = true ∧ treeModeOf s.scfg.cfg = 0) →
          h = { g with job := .tokenise }) ∧
        (s.dir = .decompress →
          if g.blkCk ≠ none ∧ g.blkCk ≠ some (xxh32 s.params.xxh bs) then EngineFailed .lz4BlockCk begun h
          else if g.blkStored = true then ∃ w, EngineProduces bs begun w ∧ done w h
          else h = { begun with job := .unpack }))

/-- A compression writes its stream header and goes to BODY; Snappy waits for the end of the input (R281, R286, R317, R318, R351, R394, R280, R386).
That all but the last byte produced is released in stream mode is log entry 16. -/
def Obligations.CompressionWritesItsHeader : Prop :=
  (∀ (s : State) (rest : List Turn), s.agenda = .agent .sequencer :: rest → s.phase = .header → s.dir = .compress →
    let wrote := fun (bs : List Byte) (t : State) => ∃ u, Emits bs { s with agenda := rest } u ∧
      t = { u with phase := .body }
    ∃ t, step s = .next t ∧
      (codec s = .deflate → wrote [] t) ∧
      (codec s = .zlib → ∀ w a b, (w, a, b) ∈ [(1, 0x28, 0x91), (2, 0x38, 0x8D), (4, 0x48, 0x89), (8, 0x58, 0x85),
        (16, 0x68, 0x81), (32, 0x78, 0x9C)] → s.scfg.windowKib.toNat = w → wrote [BitVec.ofNat 8 a, BitVec.ofNat 8 b] t) ∧
      (codec s = .gzip → wrote [0x1F, 0x8B, 0x08, 0, 0, 0, 0, 0, 0, 0xFF] t) ∧
      (codec s = .lz4 → 1 ≤ s.scfg.blockKib.toNat → s.scfg.blockKib.toNat ≤ 4096 →
        let bd : Byte := if s.scfg.blockKib.toNat ≤ 64 then 0x40 else if s.scfg.blockKib.toNat ≤ 256 then 0x50
          else if s.scfg.blockKib.toNat ≤ 1024 then 0x60 else 0x70
        wrote [0x04, 0x22, 0x4D, 0x18, 0x60, bd,
          BitVec.ofNat 8 ((xxh32 s.params.xxh [0x60, bd]).toNat / 256 % 256)] t) ∧
      (codec s = .snappy →
        if s.inEnded = false then t = { s with agenda := rest }
        else if 2 ^ 32 ≤ s.incnt.toNat then FailedAs .snpInputTooLong { s with agenda := rest } t
        else ∃ pre : List Byte, wrote pre t ∧ pre ≠ [] ∧
          pre.foldr (fun b v => b.toNat % 128 + 128 * v) 0 = s.incnt.toNat ∧
          (∀ k, k + 1 < pre.length → 128 ≤ (pre.getD k 0).toNat) ∧ (pre.getD (pre.length - 1) 0).toNat < 128 ∧
          (pre.length = 1 ∨ pre.getD (pre.length - 1) 0 ≠ 0))) ∧
  [0x40, 0x50, 0x60, 0x70].map (fun bd => (xxh32 .intended [0x60, bd]).toNat / 256 % 256) = [0x82, 0xFB, 0x51, 0x73]

/-- A session ends: the trailer a compression writes, the tests after the last element of a decompression, and the completion to DONE (R395, R80, R282, R287, R320, R280, R356, R290, R330, R331, R364, R39).
That the last byte is held back in stream mode is log entry 16. -/
def Obligations.SessionsEndInDone : Prop :=
  (∀ (s : State) (rest : List Turn), s.agenda = .agent .sequencer :: rest → s.dir = .compress →
    (s.phase = .body → step s = .next
      (if s.inEnded = true ∧ s.asm = [] ∧ s.blockQ = [] ∧ s.nextCollect = s.nextCut then
        { s with agenda := rest, phase := .trailer } else { s with agenda := rest })) ∧
    (s.phase = .trailer → ∃ t, step s = .next t ∧
      let low := fun (v : Word) => [v.setWidth 8, (v >>> 8).setWidth 8, (v >>> 16).setWidth 8, (v >>> 24).setWidth 8]
      DoneWith (if codec s = .zlib then (low (adlerFin s.adler)).reverse
        else if codec s = .gzip then low (crcFin s.crc) ++ low (s.incnt.setWidth 32)
        else if codec s = .lz4 then [0, 0, 0, 0] else []) { s with agenda := rest } t)) ∧
  (∀ (s : State) (rest : List Turn), s.agenda = .agent .sequencer :: rest → busy s = true → s.dir = .decompress →
    s.deferred = none → ¬ (s.cancelReq = true ∧ hasUnits s = false) →
    (s.want = .lz4Drain → s.nextCollect ≠ s.nextCut → step s = .next { s with agenda := rest }) ∧
    (s.want = .lz4Drain → s.nextCollect = s.nextCut → ∃ t, step s = .next t ∧
      if s.lz4flg.getLsbD 3 = true ∧ s.unp.declared ≠ s.outcnt then FailedAs .lz4ContentSize { s with agenda := rest } t
      else t = { s with agenda := rest, phase := .trailer,
                        want := if s.lz4flg.getLsbD 2 = true then .lz4Content else .trailing }) ∧
    (s.want = .snpTag → s.unp.produced = s.unp.declared →
      step s = .next { s with agenda := rest, phase := .trailer, want := .trailing }) ∧
    (s.want = .trailing → s.nextCollect = s.nextCut → ∃ t, step s = .next t ∧
      if s.unp.cur.toNat < s.strm.length then FailedAs .trailingBytes { s with agenda := rest } t
      else if s.inEnded = true then DoneWith [] { s with agenda := rest } t
      else t = { s with agenda := rest }))

/-- A running session's configuration is the copy taken at its start and passed the check; no step changes it (R40). -/
def Obligations.SessionConfigDoesNotChange : Prop :=
  ∀ s t : State, step s = .next t →
    (busy s = true → busy t = true → t.scfg = s.scfg) ∧
    (busy s = false → busy t = true →
      t.scfg = { cfg := s.regs.cfg, blockKib := s.regs.blockKib, windowKib := s.regs.windowKib,
                 engines := s.regs.engines }) ∧
    (cfgSound s = true → cfgSound t = true)

/-- PHASE makes no transition but those of R383, and the element wanted stays one of the phase (R383). -/
def Obligations.PhaseMovesAsListed : Prop :=
  ∀ s t : State, wantInPhase s = true → step s = .next t →
    phaseMove s.phase t.phase = true ∧ wantInPhase t = true

/-- Every step keeps the reserved bits of CFG 0, the pool complete and idle outside a session, and the Adler halves reduced (R29, R30, R8, R393, R162, R458). -/
def Obligations.RegistersAndPoolStaySound : Prop :=
  ∀ s t : State, step s = .next t →
    (cfgReservedZero s = true → cfgReservedZero t = true) ∧ (poolComplete s = true → poolComplete t = true) ∧
    (idleOutside s = true → idleOutside t = true) ∧ (adlerReduced s = true → adlerReduced t = true) ∧
    t.params = s.params

/-- Every step keeps the byte memories canonical and every byte below PRODUCED or BLKLEN written (R46, R47, R54, R60). -/
def Obligations.BuffersStaySound : Prop :=
  ∀ s t : State, step s = .next t →
    (memWf s = true → memWf t = true) ∧
    ((WindowFilled s.unp ∧ ∀ g ∈ s.engines, WindowFilled g.unp ∧ BlockFilled g) →
      WindowFilled t.unp ∧ ∀ g ∈ t.engines, WindowFilled g.unp ∧ BlockFilled g)

/-- The reset state of every instance meets the invariants (R54, R471). -/
def Obligations.ResetMeetsTheInvariants : Prop :=
  ∀ p : Params,
    let s := State.resetWith p
    memWf s = true ∧ cfgReservedZero s = true ∧ cfgSound s = true ∧ wantInPhase s = true ∧ poolComplete s = true ∧
    idleOutside s = true ∧ adlerReduced s = true ∧ WindowFilled s.unp ∧
    ∀ g ∈ s.engines, WindowFilled g.unp ∧ BlockFilled g

end
end

