-- ==== Sys2Proof/Laws/PerInstr.lean ====
section
/-! SUPPORT. Statements about every element, one lemma per constructor. -/

namespace Sys2Proof.Laws

open Machine

/-- The bits of a byte string are a whole number of bytes. -/
@[simp] theorem bitsOfBytes_length (bs : List Byte) : (bitsOfBytes bs).length = 8 * bs.length := by
  induction bs with
  | nil => rfl
  | cons b bs ih => simp [bitsOfBytes, bitsOfByte, natBits, ih]; omega

/-- The bits of an optional part are a whole number of bytes. -/
theorem encOpt_length {α : Type} (f : α → List Byte) (o : Option α) : (encOpt f o).length % 8 = 0 := by
  cases o with
  | none => rfl
  | some a => simp [encOpt]

/-- The bits of an LZ4 data block are a whole number of bytes. -/
theorem encBlk_length (st : Bool) (size : BitVec 31) (data : List Byte) (ck : Option Word) :
    (encBlk st size data ck).length % 8 = 0 := by
  have h := encOpt_length (fun w : Word => leBytes 4 w.toNat) ck
  simp only [encBlk, List.length_append, bitsOfBytes_length]
  omega

/-- An element of a byte-granular format is encoded in a whole number of bytes, whatever reads it (R90, R67). -/
def ByteGranular.Statement (i : Instr) : Prop :=
  i.format.byteGranular = true → ∀ c : Ctx, (encode c i).length % 8 = 0

theorem ByteGranular.nop : ByteGranular.Statement (.nop) := fun h => nomatch h
theorem ByteGranular.startCompress : ByteGranular.Statement (.startCompress) := fun h => nomatch h
theorem ByteGranular.startDecompress : ByteGranular.Statement (.startDecompress) := fun h => nomatch h
theorem ByteGranular.cancel : ByteGranular.Statement (.cancel) := fun h => nomatch h
theorem ByteGranular.softReset : ByteGranular.Statement (.softReset) := fun h => nomatch h
theorem ByteGranular.cmdReserved5 : ByteGranular.Statement (.cmdReserved5) := fun h => nomatch h
theorem ByteGranular.cmdReserved6to7 (lo : BitVec 1) : ByteGranular.Statement (.cmdReserved6to7 lo) := fun h => nomatch h
theorem ByteGranular.cmdReserved8to15 (lo : BitVec 3) : ByteGranular.Statement (.cmdReserved8to15 lo) := fun h => nomatch h
theorem ByteGranular.cfgCodecDeflate : ByteGranular.Statement (.cfgCodecDeflate) := fun h => nomatch h
theorem ByteGranular.cfgCodecZlib : ByteGranular.Statement (.cfgCodecZlib) := fun h => nomatch h
theorem ByteGranular.cfgCodecGzip : ByteGranular.Statement (.cfgCodecGzip) := fun h => nomatch h
theorem ByteGranular.cfgCodecLz4 : ByteGranular.Statement (.cfgCodecLz4) := fun h => nomatch h
theorem ByteGranular.cfgCodecSnappy : ByteGranular.Statement (.cfgCodecSnappy) := fun h => nomatch h
theorem ByteGranular.cfgCodecZstd : ByteGranular.Statement (.cfgCodecZstd) := fun h => nomatch h
theorem ByteGranular.cfgCodecReserved (lo : BitVec 1) : ByteGranular.Statement (.cfgCodecReserved lo) := fun h => nomatch h
theorem ByteGranular.cfgCkselNone : ByteGranular.Statement (.cfgCkselNone) := fun h => nomatch h
theorem ByteGranular.cfgCkselCrc32 : ByteGranular.Statement (.cfgCkselCrc32) := fun h => nomatch h
theorem ByteGranular.cfgCkselAdler32 : ByteGranular.Statement (.cfgCkselAdler32) := fun h => nomatch h
theorem ByteGranular.cfgCkselReserved3 : ByteGranular.Statement (.cfgCkselReserved3) := fun h => nomatch h
theorem ByteGranular.cfgTreeStored : ByteGranular.Statement (.cfgTreeStored) := fun h => nomatch h
theorem ByteGranular.cfgTreeFixed : ByteGranular.Statement (.cfgTreeFixed) := fun h => nomatch h
theorem ByteGranular.cfgTreeDynamic : ByteGranular.Statement (.cfgTreeDynamic) := fun h => nomatch h
theorem ByteGranular.cfgTreeReserved3 : ByteGranular.Statement (.cfgTreeReserved3) := fun h => nomatch h
theorem ByteGranular.cfgLazy0 : ByteGranular.Statement (.cfgLazy0) := fun h => nomatch h
theorem ByteGranular.cfgLazy1 : ByteGranular.Statement (.cfgLazy1) := fun h => nomatch h
theorem ByteGranular.cfgIomodeBuffer : ByteGranular.Statement (.cfgIomodeBuffer) := fun h => nomatch h
theorem ByteGranular.cfgIomodeStream : ByteGranular.Statement (.cfgIomodeStream) := fun h => nomatch h
theorem ByteGranular.beatData (b : Byte) : ByteGranular.Statement (.beatData b) := fun h => nomatch h
theorem ByteGranular.beatDataLast (b : Byte) : ByteGranular.Statement (.beatDataLast b) := fun h => nomatch h
theorem ByteGranular.beatEndEmpty : ByteGranular.Statement (.beatEndEmpty) := fun h => nomatch h
theorem ByteGranular.lit (b : Byte) : ByteGranular.Statement (.lit b) := fun h => nomatch h
theorem ByteGranular.matchTok (off : BitVec 17) (len : BitVec 16) : ByteGranular.Statement (.matchTok off len) := fun h => nomatch h
theorem ByteGranular.eob : ByteGranular.Statement (.eob) := fun h => nomatch h
theorem ByteGranular.tokenReserved (x : BitVec 38) : ByteGranular.Statement (.tokenReserved x) := fun h => nomatch h
theorem ByteGranular.dflBlockStored (bfinal : Bool) : ByteGranular.Statement (.dflBlockStored bfinal) := fun h => nomatch h
theorem ByteGranular.dflBlockFixed (bfinal : Bool) : ByteGranular.Statement (.dflBlockFixed bfinal) := fun h => nomatch h
theorem ByteGranular.dflBlockDynamic (bfinal : Bool) : ByteGranular.Statement (.dflBlockDynamic bfinal) := fun h => nomatch h
theorem ByteGranular.dflBlockReserved (bfinal : Bool) : ByteGranular.Statement (.dflBlockReserved bfinal) := fun h => nomatch h
theorem ByteGranular.dflStoredBody (len : BitVec 16) (nlen : BitVec 16) (data : List Byte) : ByteGranular.Statement (.dflStoredBody len nlen data) := fun h => nomatch h
theorem ByteGranular.dflDynHeader (hlit : BitVec 5) (hdist : BitVec 5) (hclen : BitVec 4) (cl : List (BitVec 3)) : ByteGranular.Statement (.dflDynHeader hlit hdist hclen cl) := fun h => nomatch h
theorem ByteGranular.llLiteral (b : Byte) : ByteGranular.Statement (.llLiteral b) := fun h => nomatch h
theorem ByteGranular.llEob : ByteGranular.Statement (.llEob) := fun h => nomatch h
theorem ByteGranular.llLen257 : ByteGranular.Statement (.llLen257) := fun h => nomatch h
theorem ByteGranular.llLen258 : ByteGranular.Statement (.llLen258) := fun h => nomatch h
theorem ByteGranular.llLen259 : ByteGranular.Statement (.llLen259) := fun h => nomatch h
theorem ByteGranular.llLen260 : ByteGranular.Statement (.llLen260) := fun h => nomatch h
theorem ByteGranular.llLen261 : ByteGranular.Statement (.llLen261) := fun h => nomatch h
theorem ByteGranular.llLen262 : ByteGranular.Statement (.llLen262) := fun h => nomatch h
theorem ByteGranular.llLen263 : ByteGranular.Statement (.llLen263) := fun h => nomatch h
theorem ByteGranular.llLen264 : ByteGranular.Statement (.llLen264) := fun h => nomatch h
theorem ByteGranular.llLen265 (e : BitVec 1) : ByteGranular.Statement (.llLen265 e) := fun h => nomatch h
theorem ByteGranular.llLen266 (e : BitVec 1) : ByteGranular.Statement (.llLen266 e) := fun h => nomatch h
theorem ByteGranular.llLen267 (e : BitVec 1) : ByteGranular.Statement (.llLen267 e) := fun h => nomatch h
theorem ByteGranular.llLen268 (e : BitVec 1) : ByteGranular.Statement (.llLen268 e) := fun h => nomatch h
theorem ByteGranular.llLen269 (e : BitVec 2) : ByteGranular.Statement (.llLen269 e) := fun h => nomatch h
theorem ByteGranular.llLen270 (e : BitVec 2) : ByteGranular.Statement (.llLen270 e) := fun h => nomatch h
theorem ByteGranular.llLen271 (e : BitVec 2) : ByteGranular.Statement (.llLen271 e) := fun h => nomatch h
theorem ByteGranular.llLen272 (e : BitVec 2) : ByteGranular.Statement (.llLen272 e) := fun h => nomatch h
theorem ByteGranular.llLen273 (e : BitVec 3) : ByteGranular.Statement (.llLen273 e) := fun h => nomatch h
theorem ByteGranular.llLen274 (e : BitVec 3) : ByteGranular.Statement (.llLen274 e) := fun h => nomatch h
theorem ByteGranular.llLen275 (e : BitVec 3) : ByteGranular.Statement (.llLen275 e) := fun h => nomatch h
theorem ByteGranular.llLen276 (e : BitVec 3) : ByteGranular.Statement (.llLen276 e) := fun h => nomatch h
theorem ByteGranular.llLen277 (e : BitVec 4) : ByteGranular.Statement (.llLen277 e) := fun h => nomatch h
theorem ByteGranular.llLen278 (e : BitVec 4) : ByteGranular.Statement (.llLen278 e) := fun h => nomatch h
theorem ByteGranular.llLen279 (e : BitVec 4) : ByteGranular.Statement (.llLen279 e) := fun h => nomatch h
theorem ByteGranular.llLen280 (e : BitVec 4) : ByteGranular.Statement (.llLen280 e) := fun h => nomatch h
theorem ByteGranular.llLen281 (e : BitVec 5) : ByteGranular.Statement (.llLen281 e) := fun h => nomatch h
theorem ByteGranular.llLen282 (e : BitVec 5) : ByteGranular.Statement (.llLen282 e) := fun h => nomatch h
theorem ByteGranular.llLen283 (e : BitVec 5) : ByteGranular.Statement (.llLen283 e) := fun h => nomatch h
theorem ByteGranular.llLen284 (e : BitVec 5) : ByteGranular.Statement (.llLen284 e) := fun h => nomatch h
theorem ByteGranular.llLen285 : ByteGranular.Statement (.llLen285) := fun h => nomatch h
theorem ByteGranular.llIllegal (lo : BitVec 1) : ByteGranular.Statement (.llIllegal lo) := fun h => nomatch h
theorem ByteGranular.dDist0 : ByteGranular.Statement (.dDist0) := fun h => nomatch h
theorem ByteGranular.dDist1 : ByteGranular.Statement (.dDist1) := fun h => nomatch h
theorem ByteGranular.dDist2 : ByteGranular.Statement (.dDist2) := fun h => nomatch h
theorem ByteGranular.dDist3 : ByteGranular.Statement (.dDist3) := fun h => nomatch h
theorem ByteGranular.dDist4 (e : BitVec 1) : ByteGranular.Statement (.dDist4 e) := fun h => nomatch h
theorem ByteGranular.dDist5 (e : BitVec 1) : ByteGranular.Statement (.dDist5 e) := fun h => nomatch h
theorem ByteGranular.dDist6 (e : BitVec 2) : ByteGranular.Statement (.dDist6 e) := fun h => nomatch h
theorem ByteGranular.dDist7 (e : BitVec 2) : ByteGranular.Statement (.dDist7 e) := fun h => nomatch h
theorem ByteGranular.dDist8 (e : BitVec 3) : ByteGranular.Statement (.dDist8 e) := fun h => nomatch h
theorem ByteGranular.dDist9 (e : BitVec 3) : ByteGranular.Statement (.dDist9 e) := fun h => nomatch h
theorem ByteGranular.dDist10 (e : BitVec 4) : ByteGranular.Statement (.dDist10 e) := fun h => nomatch h
theorem ByteGranular.dDist11 (e : BitVec 4) : ByteGranular.Statement (.dDist11 e) := fun h => nomatch h
theorem ByteGranular.dDist12 (e : BitVec 5) : ByteGranular.Statement (.dDist12 e) := fun h => nomatch h
theorem ByteGranular.dDist13 (e : BitVec 5) : ByteGranular.Statement (.dDist13 e) := fun h => nomatch h
theorem ByteGranular.dDist14 (e : BitVec 6) : ByteGranular.Statement (.dDist14 e) := fun h => nomatch h
theorem ByteGranular.dDist15 (e : BitVec 6) : ByteGranular.Statement (.dDist15 e) := fun h => nomatch h
theorem ByteGranular.dDist16 (e : BitVec 7) : ByteGranular.Statement (.dDist16 e) := fun h => nomatch h
theorem ByteGranular.dDist17 (e : BitVec 7) : ByteGranular.Statement (.dDist17 e) := fun h => nomatch h
theorem ByteGranular.dDist18 (e : BitVec 8) : ByteGranular.Statement (.dDist18 e) := fun h => nomatch h
theorem ByteGranular.dDist19 (e : BitVec 8) : ByteGranular.Statement (.dDist19 e) := fun h => nomatch h
theorem ByteGranular.dDist20 (e : BitVec 9) : ByteGranular.Statement (.dDist20 e) := fun h => nomatch h
theorem ByteGranular.dDist21 (e : BitVec 9) : ByteGranular.Statement (.dDist21 e) := fun h => nomatch h
theorem ByteGranular.dDist22 (e : BitVec 10) : ByteGranular.Statement (.dDist22 e) := fun h => nomatch h
theorem ByteGranular.dDist23 (e : BitVec 10) : ByteGranular.Statement (.dDist23 e) := fun h => nomatch h
theorem ByteGranular.dDist24 (e : BitVec 11) : ByteGranular.Statement (.dDist24 e) := fun h => nomatch h
theorem ByteGranular.dDist25 (e : BitVec 11) : ByteGranular.Statement (.dDist25 e) := fun h => nomatch h
theorem ByteGranular.dDist26 (e : BitVec 12) : ByteGranular.Statement (.dDist26 e) := fun h => nomatch h
theorem ByteGranular.dDist27 (e : BitVec 12) : ByteGranular.Statement (.dDist27 e) := fun h => nomatch h
theorem ByteGranular.dDist28 (e : BitVec 13) : ByteGranular.Statement (.dDist28 e) := fun h => nomatch h
theorem ByteGranular.dDist29 (e : BitVec 13) : ByteGranular.Statement (.dDist29 e) := fun h => nomatch h
theorem ByteGranular.dIllegal (lo : BitVec 1) : ByteGranular.Statement (.dIllegal lo) := fun h => nomatch h
theorem ByteGranular.clLen0 : ByteGranular.Statement (.clLen0) := fun h => nomatch h
theorem ByteGranular.clLen1 : ByteGranular.Statement (.clLen1) := fun h => nomatch h
theorem ByteGranular.clLen2 : ByteGranular.Statement (.clLen2) := fun h => nomatch h
theorem ByteGranular.clLen3 : ByteGranular.Statement (.clLen3) := fun h => nomatch h
theorem ByteGranular.clLen4 : ByteGranular.Statement (.clLen4) := fun h => nomatch h
theorem ByteGranular.clLen5 : ByteGranular.Statement (.clLen5) := fun h => nomatch h
theorem ByteGranular.clLen6 : ByteGranular.Statement (.clLen6) := fun h => nomatch h
theorem ByteGranular.clLen7 : ByteGranular.Statement (.clLen7) := fun h => nomatch h
theorem ByteGranular.clLen8 : ByteGranular.Statement (.clLen8) := fun h => nomatch h
theorem ByteGranular.clLen9 : ByteGranular.Statement (.clLen9) := fun h => nomatch h
theorem ByteGranular.clLen10 : ByteGranular.Statement (.clLen10) := fun h => nomatch h
theorem ByteGranular.clLen11 : ByteGranular.Statement (.clLen11) := fun h => nomatch h
theorem ByteGranular.clLen12 : ByteGranular.Statement (.clLen12) := fun h => nomatch h
theorem ByteGranular.clLen13 : ByteGranular.Statement (.clLen13) := fun h => nomatch h
theorem ByteGranular.clLen14 : ByteGranular.Statement (.clLen14) := fun h => nomatch h
theorem ByteGranular.clLen15 : ByteGranular.Statement (.clLen15) := fun h => nomatch h
theorem ByteGranular.clRepPrev (e : BitVec 2) : ByteGranular.Statement (.clRepPrev e) := fun h => nomatch h
theorem ByteGranular.clRepZeroShort (e : BitVec 3) : ByteGranular.Statement (.clRepZeroShort e) := fun h => nomatch h
theorem ByteGranular.clRepZeroLong (e : BitVec 7) : ByteGranular.Statement (.clRepZeroLong e) := fun h => nomatch h
theorem ByteGranular.zlibHeader (cmf : Byte) (flg : Byte) : ByteGranular.Statement (.zlibHeader cmf flg) := by
  intro _ cx
  simp only [encode, bitsOfBytes_length]
  omega
theorem ByteGranular.zlibTrailer (v : Word) : ByteGranular.Statement (.zlibTrailer v) := by
  intro _ cx
  simp only [encode, bitsOfBytes_length]
  omega
theorem ByteGranular.gzipHeader (id1 : Byte) (id2 : Byte) (cm : Byte) (flg : Byte) (mtime : Word) (xfl : Byte) (os : Byte) (extra : Option (List Byte)) (name : Option (List Byte)) (comment : Option (List Byte)) (crc16 : Option (BitVec 16)) : ByteGranular.Statement (.gzipHeader id1 id2 cm flg mtime xfl os extra name comment crc16) := by
  intro _ cx
  have h1 := encOpt_length (fun s : List Byte => leBytes 2 s.length ++ s) extra
  have h2 := encOpt_length (fun s : List Byte => s ++ [0]) name
  have h3 := encOpt_length (fun s : List Byte => s ++ [0]) comment
  have h4 := encOpt_length (fun w : BitVec 16 => leBytes 2 w.toNat) crc16
  simp only [encode, List.length_append, bitsOfBytes_length]
  omega
theorem ByteGranular.gzipTrailer (crc : Word) (isize : Option Word) : ByteGranular.Statement (.gzipTrailer crc isize) := by
  intro _ cx
  have h1 := encOpt_length (fun w : Word => leBytes 4 w.toNat) isize
  simp only [encode, List.length_append, bitsOfBytes_length]
  omega
theorem ByteGranular.lz4Magic : ByteGranular.Statement (.lz4Magic) := by
  intro _ cx
  simp only [encode, bitsOfBytes_length]
  omega
theorem ByteGranular.lz4MagicSkippable (lo : BitVec 4) : ByteGranular.Statement (.lz4MagicSkippable lo) := by
  intro _ cx
  simp only [encode, bitsOfBytes_length]
  omega
theorem ByteGranular.lz4Descriptor (flg : Byte) (bd : Option Byte) (csize : Option (BitVec 64)) (dict : Option Word) (hc : Option Byte) : ByteGranular.Statement (.lz4Descriptor flg bd csize dict hc) := by
  intro _ cx
  have h1 := encOpt_length (fun b : Byte => [b]) bd
  have h2 := encOpt_length (fun w : BitVec 64 => leBytes 8 w.toNat) csize
  have h3 := encOpt_length (fun w : Word => leBytes 4 w.toNat) dict
  have h4 := encOpt_length (fun b : Byte => [b]) hc
  simp only [encode, List.length_append, bitsOfBytes_length]
  omega
theorem ByteGranular.lz4BlockCompressed (size : BitVec 31) (data : List Byte) (ck : Option Word) : ByteGranular.Statement (.lz4BlockCompressed size data ck) := fun _ _ => encBlk_length _ _ _ _
theorem ByteGranular.lz4BlockStored (size : BitVec 31) (data : List Byte) (ck : Option Word) : ByteGranular.Statement (.lz4BlockStored size data ck) := fun _ _ => encBlk_length _ _ _ _
theorem ByteGranular.lz4Endmark : ByteGranular.Statement (.lz4Endmark) := by
  intro _ cx
  simp only [encode, bitsOfBytes_length]
  omega
theorem ByteGranular.lz4ContentChecksum (v : Word) : ByteGranular.Statement (.lz4ContentChecksum v) := by
  intro _ cx
  simp only [encode, bitsOfBytes_length]
  omega
theorem ByteGranular.lz4Sequence (lits : List Byte) (mat : Option (BitVec 16 × Nat)) : ByteGranular.Statement (.lz4Sequence lits mat) := by
  intro _ cx
  simp only [encode, bitsOfBytes_length]
  omega
theorem ByteGranular.lz4LastSequence (lits : List Byte) : ByteGranular.Statement (.lz4LastSequence lits) := by
  intro _ cx
  simp only [encode, bitsOfBytes_length]
  omega
theorem ByteGranular.snpPreamble (bs : List Byte) : ByteGranular.Statement (.snpPreamble bs) := by
  intro _ cx
  simp only [encode, bitsOfBytes_length]
  omega
theorem ByteGranular.snpLiteral (m : BitVec 6) (ext : List Byte) (data : List Byte) : ByteGranular.Statement (.snpLiteral m ext data) := by
  intro _ cx
  simp only [encode, bitsOfBytes_length]
  omega
theorem ByteGranular.snpCopy1 (len3 : BitVec 3) (off : BitVec 11) : ByteGranular.Statement (.snpCopy1 len3 off) := by
  intro _ cx
  simp only [encode, bitsOfBytes_length]
  omega
theorem ByteGranular.snpCopy2 (len6 : BitVec 6) (off : BitVec 16) : ByteGranular.Statement (.snpCopy2 len6 off) := by
  intro _ cx
  simp only [encode, bitsOfBytes_length]
  omega
theorem ByteGranular.snpCopy4 (len6 : BitVec 6) (off : BitVec 32) : ByteGranular.Statement (.snpCopy4 len6 off) := by
  intro _ cx
  simp only [encode, bitsOfBytes_length]
  omega

end Sys2Proof.Laws
end

