-- ==== Sys2Proof/Laws/State.lean ====
section
/-! SUPPORT. One lemma per field and update of State, so that no proof unfolds a record update. -/

namespace Sys2Proof.Laws

open Machine

@[simp] theorem setEngine_params (e : Nat) (g : Engine) (s : State) : (setEngine e g s).params = s.params := rfl
@[simp] theorem setEngine_regs (e : Nat) (g : Engine) (s : State) : (setEngine e g s).regs = s.regs := rfl
@[simp] theorem setEngine_scfg (e : Nat) (g : Engine) (s : State) : (setEngine e g s).scfg = s.scfg := rfl
@[simp] theorem setEngine_phase (e : Nat) (g : Engine) (s : State) : (setEngine e g s).phase = s.phase := rfl
@[simp] theorem setEngine_dir (e : Nat) (g : Engine) (s : State) : (setEngine e g s).dir = s.dir := rfl
@[simp] theorem setEngine_errcode (e : Nat) (g : Engine) (s : State) : (setEngine e g s).errcode = s.errcode := rfl
@[simp] theorem setEngine_crc (e : Nat) (g : Engine) (s : State) : (setEngine e g s).crc = s.crc := rfl
@[simp] theorem setEngine_adler (e : Nat) (g : Engine) (s : State) : (setEngine e g s).adler = s.adler := rfl
@[simp] theorem setEngine_nextDispatch (e : Nat) (g : Engine) (s : State) : (setEngine e g s).nextDispatch = s.nextDispatch := rfl
@[simp] theorem setEngine_nextCollect (e : Nat) (g : Engine) (s : State) : (setEngine e g s).nextCollect = s.nextCollect := rfl
@[simp] theorem setEngine_incnt (e : Nat) (g : Engine) (s : State) : (setEngine e g s).incnt = s.incnt := rfl
@[simp] theorem setEngine_outcnt (e : Nat) (g : Engine) (s : State) : (setEngine e g s).outcnt = s.outcnt := rfl
@[simp] theorem setEngine_stage (e : Nat) (g : Engine) (s : State) : (setEngine e g s).stage = s.stage := rfl
@[simp] theorem setEngine_unp (e : Nat) (g : Engine) (s : State) : (setEngine e g s).unp = s.unp := rfl
@[simp] theorem setEngine_tabs (e : Nat) (g : Engine) (s : State) : (setEngine e g s).tabs = s.tabs := rfl
@[simp] theorem setEngine_inp (e : Nat) (g : Engine) (s : State) : (setEngine e g s).inp = s.inp := rfl
@[simp] theorem setEngine_outp (e : Nat) (g : Engine) (s : State) : (setEngine e g s).outp = s.outp := rfl
@[simp] theorem setEngine_strm (e : Nat) (g : Engine) (s : State) : (setEngine e g s).strm = s.strm := rfl
@[simp] theorem setEngine_inEnded (e : Nat) (g : Engine) (s : State) : (setEngine e g s).inEnded = s.inEnded := rfl
@[simp] theorem setEngine_discard (e : Nat) (g : Engine) (s : State) : (setEngine e g s).discard = s.discard := rfl
@[simp] theorem setEngine_asm (e : Nat) (g : Engine) (s : State) : (setEngine e g s).asm = s.asm := rfl
@[simp] theorem setEngine_blockQ (e : Nat) (g : Engine) (s : State) : (setEngine e g s).blockQ = s.blockQ := rfl
@[simp] theorem setEngine_nextCut (e : Nat) (g : Engine) (s : State) : (setEngine e g s).nextCut = s.nextCut := rfl
@[simp] theorem setEngine_want (e : Nat) (g : Engine) (s : State) : (setEngine e g s).want = s.want := rfl
@[simp] theorem setEngine_rdLen (e : Nat) (g : Engine) (s : State) : (setEngine e g s).rdLen = s.rdLen := rfl
@[simp] theorem setEngine_rdQ (e : Nat) (g : Engine) (s : State) : (setEngine e g s).rdQ = s.rdQ := rfl
@[simp] theorem setEngine_lz4flg (e : Nat) (g : Engine) (s : State) : (setEngine e g s).lz4flg = s.lz4flg := rfl
@[simp] theorem setEngine_content (e : Nat) (g : Engine) (s : State) : (setEngine e g s).content = s.content := rfl
@[simp] theorem setEngine_deferred (e : Nat) (g : Engine) (s : State) : (setEngine e g s).deferred = s.deferred := rfl
@[simp] theorem setEngine_cancelReq (e : Nat) (g : Engine) (s : State) : (setEngine e g s).cancelReq = s.cancelReq := rfl
@[simp] theorem setEngine_actor (e : Nat) (g : Engine) (s : State) : (setEngine e g s).actor = s.actor := rfl
@[simp] theorem setEngine_agenda (e : Nat) (g : Engine) (s : State) : (setEngine e g s).agenda = s.agenda := rfl
@[simp] theorem setEngine_readData (e : Nat) (g : Engine) (s : State) : (setEngine e g s).readData = s.readData := rfl
@[simp] theorem setEngine_freeIdx (e : Nat) (g : Engine) (s : State) : (setEngine e g s).freeIdx = s.freeIdx := rfl

@[simp] theorem setEngine_engines (e : Nat) (g : Engine) (s : State) : (setEngine e g s).engines = s.engines.set e g := rfl
@[simp] theorem setCfg_params (lo w v : Nat) (s : State) : (setCfg lo w v s).params = s.params := rfl
@[simp] theorem setCfg_scfg (lo w v : Nat) (s : State) : (setCfg lo w v s).scfg = s.scfg := rfl
@[simp] theorem setCfg_phase (lo w v : Nat) (s : State) : (setCfg lo w v s).phase = s.phase := rfl
@[simp] theorem setCfg_dir (lo w v : Nat) (s : State) : (setCfg lo w v s).dir = s.dir := rfl
@[simp] theorem setCfg_errcode (lo w v : Nat) (s : State) : (setCfg lo w v s).errcode = s.errcode := rfl
@[simp] theorem setCfg_crc (lo w v : Nat) (s : State) : (setCfg lo w v s).crc = s.crc := rfl
@[simp] theorem setCfg_adler (lo w v : Nat) (s : State) : (setCfg lo w v s).adler = s.adler := rfl
@[simp] theorem setCfg_nextDispatch (lo w v : Nat) (s : State) : (setCfg lo w v s).nextDispatch = s.nextDispatch := rfl
@[simp] theorem setCfg_nextCollect (lo w v : Nat) (s : State) : (setCfg lo w v s).nextCollect = s.nextCollect := rfl
@[simp] theorem setCfg_incnt (lo w v : Nat) (s : State) : (setCfg lo w v s).incnt = s.incnt := rfl
@[simp] theorem setCfg_outcnt (lo w v : Nat) (s : State) : (setCfg lo w v s).outcnt = s.outcnt := rfl
@[simp] theorem setCfg_stage (lo w v : Nat) (s : State) : (setCfg lo w v s).stage = s.stage := rfl
@[simp] theorem setCfg_unp (lo w v : Nat) (s : State) : (setCfg lo w v s).unp = s.unp := rfl
@[simp] theorem setCfg_tabs (lo w v : Nat) (s : State) : (setCfg lo w v s).tabs = s.tabs := rfl
@[simp] theorem setCfg_engines (lo w v : Nat) (s : State) : (setCfg lo w v s).engines = s.engines := rfl
@[simp] theorem setCfg_inp (lo w v : Nat) (s : State) : (setCfg lo w v s).inp = s.inp := rfl
@[simp] theorem setCfg_outp (lo w v : Nat) (s : State) : (setCfg lo w v s).outp = s.outp := rfl
@[simp] theorem setCfg_strm (lo w v : Nat) (s : State) : (setCfg lo w v s).strm = s.strm := rfl
@[simp] theorem setCfg_inEnded (lo w v : Nat) (s : State) : (setCfg lo w v s).inEnded = s.inEnded := rfl
@[simp] theorem setCfg_discard (lo w v : Nat) (s : State) : (setCfg lo w v s).discard = s.discard := rfl
@[simp] theorem setCfg_asm (lo w v : Nat) (s : State) : (setCfg lo w v s).asm = s.asm := rfl
@[simp] theorem setCfg_blockQ (lo w v : Nat) (s : State) : (setCfg lo w v s).blockQ = s.blockQ := rfl
@[simp] theorem setCfg_nextCut (lo w v : Nat) (s : State) : (setCfg lo w v s).nextCut = s.nextCut := rfl
@[simp] theorem setCfg_want (lo w v : Nat) (s : State) : (setCfg lo w v s).want = s.want := rfl
@[simp] theorem setCfg_rdLen (lo w v : Nat) (s : State) : (setCfg lo w v s).rdLen = s.rdLen := rfl
@[simp] theorem setCfg_rdQ (lo w v : Nat) (s : State) : (setCfg lo w v s).rdQ = s.rdQ := rfl
@[simp] theorem setCfg_lz4flg (lo w v : Nat) (s : State) : (setCfg lo w v s).lz4flg = s.lz4flg := rfl
@[simp] theorem setCfg_content (lo w v : Nat) (s : State) : (setCfg lo w v s).content = s.content := rfl
@[simp] theorem setCfg_deferred (lo w v : Nat) (s : State) : (setCfg lo w v s).deferred = s.deferred := rfl
@[simp] theorem setCfg_cancelReq (lo w v : Nat) (s : State) : (setCfg lo w v s).cancelReq = s.cancelReq := rfl
@[simp] theorem setCfg_actor (lo w v : Nat) (s : State) : (setCfg lo w v s).actor = s.actor := rfl
@[simp] theorem setCfg_agenda (lo w v : Nat) (s : State) : (setCfg lo w v s).agenda = s.agenda := rfl
@[simp] theorem setCfg_readData (lo w v : Nat) (s : State) : (setCfg lo w v s).readData = s.readData := rfl
@[simp] theorem setCfg_freeIdx (lo w v : Nat) (s : State) : (setCfg lo w v s).freeIdx = s.freeIdx := rfl

@[simp] theorem closeDone_params (s : State) : (closeDone s).params = s.params := rfl
@[simp] theorem closeDone_regs (s : State) : (closeDone s).regs = s.regs := rfl
@[simp] theorem closeDone_scfg (s : State) : (closeDone s).scfg = s.scfg := rfl
@[simp] theorem closeDone_phase (s : State) : (closeDone s).phase = s.phase := rfl
@[simp] theorem closeDone_dir (s : State) : (closeDone s).dir = s.dir := rfl
@[simp] theorem closeDone_errcode (s : State) : (closeDone s).errcode = s.errcode := rfl
@[simp] theorem closeDone_crc (s : State) : (closeDone s).crc = s.crc := rfl
@[simp] theorem closeDone_adler (s : State) : (closeDone s).adler = s.adler := rfl
@[simp] theorem closeDone_nextDispatch (s : State) : (closeDone s).nextDispatch = s.nextDispatch := rfl
@[simp] theorem closeDone_nextCollect (s : State) : (closeDone s).nextCollect = s.nextCollect := rfl
@[simp] theorem closeDone_incnt (s : State) : (closeDone s).incnt = s.incnt := rfl
@[simp] theorem closeDone_outcnt (s : State) : (closeDone s).outcnt = s.outcnt := rfl
@[simp] theorem closeDone_unp (s : State) : (closeDone s).unp = s.unp := rfl
@[simp] theorem closeDone_tabs (s : State) : (closeDone s).tabs = s.tabs := rfl
@[simp] theorem closeDone_engines (s : State) : (closeDone s).engines = s.engines := rfl
@[simp] theorem closeDone_inp (s : State) : (closeDone s).inp = s.inp := rfl
@[simp] theorem closeDone_strm (s : State) : (closeDone s).strm = s.strm := rfl
@[simp] theorem closeDone_inEnded (s : State) : (closeDone s).inEnded = s.inEnded := rfl
@[simp] theorem closeDone_discard (s : State) : (closeDone s).discard = s.discard := rfl
@[simp] theorem closeDone_asm (s : State) : (closeDone s).asm = s.asm := rfl
@[simp] theorem closeDone_blockQ (s : State) : (closeDone s).blockQ = s.blockQ := rfl
@[simp] theorem closeDone_nextCut (s : State) : (closeDone s).nextCut = s.nextCut := rfl
@[simp] theorem closeDone_want (s : State) : (closeDone s).want = s.want := rfl
@[simp] theorem closeDone_rdLen (s : State) : (closeDone s).rdLen = s.rdLen := rfl
@[simp] theorem closeDone_rdQ (s : State) : (closeDone s).rdQ = s.rdQ := rfl
@[simp] theorem closeDone_lz4flg (s : State) : (closeDone s).lz4flg = s.lz4flg := rfl
@[simp] theorem closeDone_content (s : State) : (closeDone s).content = s.content := rfl
@[simp] theorem closeDone_deferred (s : State) : (closeDone s).deferred = s.deferred := rfl
@[simp] theorem closeDone_cancelReq (s : State) : (closeDone s).cancelReq = s.cancelReq := rfl
@[simp] theorem closeDone_actor (s : State) : (closeDone s).actor = s.actor := rfl
@[simp] theorem closeDone_agenda (s : State) : (closeDone s).agenda = s.agenda := rfl
@[simp] theorem closeDone_readData (s : State) : (closeDone s).readData = s.readData := rfl
@[simp] theorem closeDone_freeIdx (s : State) : (closeDone s).freeIdx = s.freeIdx := rfl

@[simp] theorem closeCut_params (s : State) : (closeCut s).params = s.params := rfl
@[simp] theorem closeCut_regs (s : State) : (closeCut s).regs = s.regs := rfl
@[simp] theorem closeCut_scfg (s : State) : (closeCut s).scfg = s.scfg := rfl
@[simp] theorem closeCut_phase (s : State) : (closeCut s).phase = s.phase := rfl
@[simp] theorem closeCut_dir (s : State) : (closeCut s).dir = s.dir := rfl
@[simp] theorem closeCut_errcode (s : State) : (closeCut s).errcode = s.errcode := rfl
@[simp] theorem closeCut_crc (s : State) : (closeCut s).crc = s.crc := rfl
@[simp] theorem closeCut_adler (s : State) : (closeCut s).adler = s.adler := rfl
@[simp] theorem closeCut_nextDispatch (s : State) : (closeCut s).nextDispatch = s.nextDispatch := rfl
@[simp] theorem closeCut_nextCollect (s : State) : (closeCut s).nextCollect = s.nextCollect := rfl
@[simp] theorem closeCut_incnt (s : State) : (closeCut s).incnt = s.incnt := rfl
@[simp] theorem closeCut_outcnt (s : State) : (closeCut s).outcnt = s.outcnt := rfl
@[simp] theorem closeCut_unp (s : State) : (closeCut s).unp = s.unp := rfl
@[simp] theorem closeCut_tabs (s : State) : (closeCut s).tabs = s.tabs := rfl
@[simp] theorem closeCut_engines (s : State) : (closeCut s).engines = s.engines := rfl
@[simp] theorem closeCut_inp (s : State) : (closeCut s).inp = s.inp := rfl
@[simp] theorem closeCut_strm (s : State) : (closeCut s).strm = s.strm := rfl
@[simp] theorem closeCut_inEnded (s : State) : (closeCut s).inEnded = s.inEnded := rfl
@[simp] theorem closeCut_discard (s : State) : (closeCut s).discard = s.discard := rfl
@[simp] theorem closeCut_asm (s : State) : (closeCut s).asm = s.asm := rfl
@[simp] theorem closeCut_blockQ (s : State) : (closeCut s).blockQ = s.blockQ := rfl
@[simp] theorem closeCut_nextCut (s : State) : (closeCut s).nextCut = s.nextCut := rfl
@[simp] theorem closeCut_want (s : State) : (closeCut s).want = s.want := rfl
@[simp] theorem closeCut_rdLen (s : State) : (closeCut s).rdLen = s.rdLen := rfl
@[simp] theorem closeCut_rdQ (s : State) : (closeCut s).rdQ = s.rdQ := rfl
@[simp] theorem closeCut_lz4flg (s : State) : (closeCut s).lz4flg = s.lz4flg := rfl
@[simp] theorem closeCut_content (s : State) : (closeCut s).content = s.content := rfl
@[simp] theorem closeCut_deferred (s : State) : (closeCut s).deferred = s.deferred := rfl
@[simp] theorem closeCut_cancelReq (s : State) : (closeCut s).cancelReq = s.cancelReq := rfl
@[simp] theorem closeCut_actor (s : State) : (closeCut s).actor = s.actor := rfl
@[simp] theorem closeCut_agenda (s : State) : (closeCut s).agenda = s.agenda := rfl
@[simp] theorem closeCut_readData (s : State) : (closeCut s).readData = s.readData := rfl
@[simp] theorem closeCut_freeIdx (s : State) : (closeCut s).freeIdx = s.freeIdx := rfl

@[simp] theorem dropWork_params (s : State) : (dropWork s).params = s.params := rfl
@[simp] theorem dropWork_regs (s : State) : (dropWork s).regs = s.regs := rfl
@[simp] theorem dropWork_scfg (s : State) : (dropWork s).scfg = s.scfg := rfl
@[simp] theorem dropWork_phase (s : State) : (dropWork s).phase = s.phase := rfl
@[simp] theorem dropWork_dir (s : State) : (dropWork s).dir = s.dir := rfl
@[simp] theorem dropWork_errcode (s : State) : (dropWork s).errcode = s.errcode := rfl
@[simp] theorem dropWork_crc (s : State) : (dropWork s).crc = s.crc := rfl
@[simp] theorem dropWork_adler (s : State) : (dropWork s).adler = s.adler := rfl
@[simp] theorem dropWork_nextDispatch (s : State) : (dropWork s).nextDispatch = s.nextDispatch := rfl
@[simp] theorem dropWork_nextCollect (s : State) : (dropWork s).nextCollect = s.nextCollect := rfl
@[simp] theorem dropWork_incnt (s : State) : (dropWork s).incnt = s.incnt := rfl
@[simp] theorem dropWork_outcnt (s : State) : (dropWork s).outcnt = s.outcnt := rfl
@[simp] theorem dropWork_stage (s : State) : (dropWork s).stage = s.stage := rfl
@[simp] theorem dropWork_unp (s : State) : (dropWork s).unp = s.unp := rfl
@[simp] theorem dropWork_tabs (s : State) : (dropWork s).tabs = s.tabs := rfl
@[simp] theorem dropWork_inp (s : State) : (dropWork s).inp = s.inp := rfl
@[simp] theorem dropWork_outp (s : State) : (dropWork s).outp = s.outp := rfl
@[simp] theorem dropWork_strm (s : State) : (dropWork s).strm = s.strm := rfl
@[simp] theorem dropWork_inEnded (s : State) : (dropWork s).inEnded = s.inEnded := rfl
@[simp] theorem dropWork_nextCut (s : State) : (dropWork s).nextCut = s.nextCut := rfl
@[simp] theorem dropWork_rdLen (s : State) : (dropWork s).rdLen = s.rdLen := rfl
@[simp] theorem dropWork_rdQ (s : State) : (dropWork s).rdQ = s.rdQ := rfl
@[simp] theorem dropWork_lz4flg (s : State) : (dropWork s).lz4flg = s.lz4flg := rfl
@[simp] theorem dropWork_content (s : State) : (dropWork s).content = s.content := rfl
@[simp] theorem dropWork_actor (s : State) : (dropWork s).actor = s.actor := rfl
@[simp] theorem dropWork_agenda (s : State) : (dropWork s).agenda = s.agenda := rfl
@[simp] theorem dropWork_readData (s : State) : (dropWork s).readData = s.readData := rfl
@[simp] theorem dropWork_freeIdx (s : State) : (dropWork s).freeIdx = s.freeIdx := rfl

@[simp] theorem cancelSession_params (s : State) : (cancelSession s).params = s.params := rfl
@[simp] theorem cancelSession_scfg (s : State) : (cancelSession s).scfg = s.scfg := rfl
@[simp] theorem cancelSession_dir (s : State) : (cancelSession s).dir = s.dir := rfl
@[simp] theorem cancelSession_crc (s : State) : (cancelSession s).crc = s.crc := rfl
@[simp] theorem cancelSession_adler (s : State) : (cancelSession s).adler = s.adler := rfl
@[simp] theorem cancelSession_nextDispatch (s : State) : (cancelSession s).nextDispatch = s.nextDispatch := rfl
@[simp] theorem cancelSession_nextCollect (s : State) : (cancelSession s).nextCollect = s.nextCollect := rfl
@[simp] theorem cancelSession_incnt (s : State) : (cancelSession s).incnt = s.incnt := rfl
@[simp] theorem cancelSession_outcnt (s : State) : (cancelSession s).outcnt = s.outcnt := rfl
@[simp] theorem cancelSession_unp (s : State) : (cancelSession s).unp = s.unp := rfl
@[simp] theorem cancelSession_tabs (s : State) : (cancelSession s).tabs = s.tabs := rfl
@[simp] theorem cancelSession_inp (s : State) : (cancelSession s).inp = s.inp := rfl
@[simp] theorem cancelSession_strm (s : State) : (cancelSession s).strm = s.strm := rfl
@[simp] theorem cancelSession_inEnded (s : State) : (cancelSession s).inEnded = s.inEnded := rfl
@[simp] theorem cancelSession_nextCut (s : State) : (cancelSession s).nextCut = s.nextCut := rfl
@[simp] theorem cancelSession_rdLen (s : State) : (cancelSession s).rdLen = s.rdLen := rfl
@[simp] theorem cancelSession_rdQ (s : State) : (cancelSession s).rdQ = s.rdQ := rfl
@[simp] theorem cancelSession_lz4flg (s : State) : (cancelSession s).lz4flg = s.lz4flg := rfl
@[simp] theorem cancelSession_content (s : State) : (cancelSession s).content = s.content := rfl
@[simp] theorem cancelSession_actor (s : State) : (cancelSession s).actor = s.actor := rfl
@[simp] theorem cancelSession_agenda (s : State) : (cancelSession s).agenda = s.agenda := rfl
@[simp] theorem cancelSession_readData (s : State) : (cancelSession s).readData = s.readData := rfl

@[simp] theorem completeSession_params (s : State) : (completeSession s).params = s.params := rfl
@[simp] theorem completeSession_scfg (s : State) : (completeSession s).scfg = s.scfg := rfl
@[simp] theorem completeSession_dir (s : State) : (completeSession s).dir = s.dir := rfl
@[simp] theorem completeSession_errcode (s : State) : (completeSession s).errcode = s.errcode := rfl
@[simp] theorem completeSession_crc (s : State) : (completeSession s).crc = s.crc := rfl
@[simp] theorem completeSession_adler (s : State) : (completeSession s).adler = s.adler := rfl
@[simp] theorem completeSession_nextDispatch (s : State) : (completeSession s).nextDispatch = s.nextDispatch := rfl
@[simp] theorem completeSession_nextCollect (s : State) : (completeSession s).nextCollect = s.nextCollect := rfl
@[simp] theorem completeSession_incnt (s : State) : (completeSession s).incnt = s.incnt := rfl
@[simp] theorem completeSession_outcnt (s : State) : (completeSession s).outcnt = s.outcnt := rfl
@[simp] theorem completeSession_unp (s : State) : (completeSession s).unp = s.unp := rfl
@[simp] theorem completeSession_tabs (s : State) : (completeSession s).tabs = s.tabs := rfl
@[simp] theorem completeSession_inp (s : State) : (completeSession s).inp = s.inp := rfl
@[simp] theorem completeSession_strm (s : State) : (completeSession s).strm = s.strm := rfl
@[simp] theorem completeSession_inEnded (s : State) : (completeSession s).inEnded = s.inEnded := rfl
@[simp] theorem completeSession_nextCut (s : State) : (completeSession s).nextCut = s.nextCut := rfl
@[simp] theorem completeSession_rdLen (s : State) : (completeSession s).rdLen = s.rdLen := rfl
@[simp] theorem completeSession_rdQ (s : State) : (completeSession s).rdQ = s.rdQ := rfl
@[simp] theorem completeSession_lz4flg (s : State) : (completeSession s).lz4flg = s.lz4flg := rfl
@[simp] theorem completeSession_content (s : State) : (completeSession s).content = s.content := rfl
@[simp] theorem completeSession_actor (s : State) : (completeSession s).actor = s.actor := rfl
@[simp] theorem completeSession_agenda (s : State) : (completeSession s).agenda = s.agenda := rfl
@[simp] theorem completeSession_readData (s : State) : (completeSession s).readData = s.readData := rfl
@[simp] theorem completeSession_freeIdx (s : State) : (completeSession s).freeIdx = s.freeIdx := rfl

@[simp] theorem initSession_params (d : Dir) (s : State) : (initSession d s).params = s.params := rfl
@[simp] theorem initSession_tabs (d : Dir) (s : State) : (initSession d s).tabs = s.tabs := rfl
@[simp] theorem initSession_inp (d : Dir) (s : State) : (initSession d s).inp = s.inp := rfl
@[simp] theorem initSession_outp (d : Dir) (s : State) : (initSession d s).outp = s.outp := rfl
@[simp] theorem initSession_discard (d : Dir) (s : State) : (initSession d s).discard = s.discard := rfl
@[simp] theorem initSession_rdLen (d : Dir) (s : State) : (initSession d s).rdLen = s.rdLen := rfl
@[simp] theorem initSession_rdQ (d : Dir) (s : State) : (initSession d s).rdQ = s.rdQ := rfl
@[simp] theorem initSession_lz4flg (d : Dir) (s : State) : (initSession d s).lz4flg = s.lz4flg := rfl
@[simp] theorem initSession_actor (d : Dir) (s : State) : (initSession d s).actor = s.actor := rfl
@[simp] theorem initSession_agenda (d : Dir) (s : State) : (initSession d s).agenda = s.agenda := rfl
@[simp] theorem initSession_readData (d : Dir) (s : State) : (initSession d s).readData = s.readData := rfl
@[simp] theorem initSession_freeIdx (d : Dir) (s : State) : (initSession d s).freeIdx = s.freeIdx := rfl

@[simp] theorem ckTake_params (bs : List Byte) (s : State) : (ckTake bs s).params = s.params := by unfold ckTake; split <;> rfl
@[simp] theorem ckTake_regs (bs : List Byte) (s : State) : (ckTake bs s).regs = s.regs := by unfold ckTake; split <;> rfl
@[simp] theorem ckTake_scfg (bs : List Byte) (s : State) : (ckTake bs s).scfg = s.scfg := by unfold ckTake; split <;> rfl
@[simp] theorem ckTake_phase (bs : List Byte) (s : State) : (ckTake bs s).phase = s.phase := by unfold ckTake; split <;> rfl
@[simp] theorem ckTake_dir (bs : List Byte) (s : State) : (ckTake bs s).dir = s.dir := by unfold ckTake; split <;> rfl
@[simp] theorem ckTake_errcode (bs : List Byte) (s : State) : (ckTake bs s).errcode = s.errcode := by unfold ckTake; split <;> rfl
@[simp] theorem ckTake_nextDispatch (bs : List Byte) (s : State) : (ckTake bs s).nextDispatch = s.nextDispatch := by unfold ckTake; split <;> rfl
@[simp] theorem ckTake_nextCollect (bs : List Byte) (s : State) : (ckTake bs s).nextCollect = s.nextCollect := by unfold ckTake; split <;> rfl
@[simp] theorem ckTake_incnt (bs : List Byte) (s : State) : (ckTake bs s).incnt = s.incnt := by unfold ckTake; split <;> rfl
@[simp] theorem ckTake_outcnt (bs : List Byte) (s : State) : (ckTake bs s).outcnt = s.outcnt := by unfold ckTake; split <;> rfl
@[simp] theorem ckTake_stage (bs : List Byte) (s : State) : (ckTake bs s).stage = s.stage := by unfold ckTake; split <;> rfl
@[simp] theorem ckTake_unp (bs : List Byte) (s : State) : (ckTake bs s).unp = s.unp := by unfold ckTake; split <;> rfl
@[simp] theorem ckTake_tabs (bs : List Byte) (s : State) : (ckTake bs s).tabs = s.tabs := by unfold ckTake; split <;> rfl
@[simp] theorem ckTake_engines (bs : List Byte) (s : State) : (ckTake bs s).engines = s.engines := by unfold ckTake; split <;> rfl
@[simp] theorem ckTake_inp (bs : List Byte) (s : State) : (ckTake bs s).inp = s.inp := by unfold ckTake; split <;> rfl
@[simp] theorem ckTake_outp (bs : List Byte) (s : State) : (ckTake bs s).outp = s.outp := by unfold ckTake; split <;> rfl
@[simp] theorem ckTake_strm (bs : List Byte) (s : State) : (ckTake bs s).strm = s.strm := by unfold ckTake; split <;> rfl
@[simp] theorem ckTake_inEnded (bs : List Byte) (s : State) : (ckTake bs s).inEnded = s.inEnded := by unfold ckTake; split <;> rfl
@[simp] theorem ckTake_discard (bs : List Byte) (s : State) : (ckTake bs s).discard = s.discard := by unfold ckTake; split <;> rfl
@[simp] theorem ckTake_asm (bs : List Byte) (s : State) : (ckTake bs s).asm = s.asm := by unfold ckTake; split <;> rfl
@[simp] theorem ckTake_blockQ (bs : List Byte) (s : State) : (ckTake bs s).blockQ = s.blockQ := by unfold ckTake; split <;> rfl
@[simp] theorem ckTake_nextCut (bs : List Byte) (s : State) : (ckTake bs s).nextCut = s.nextCut := by unfold ckTake; split <;> rfl
@[simp] theorem ckTake_want (bs : List Byte) (s : State) : (ckTake bs s).want = s.want := by unfold ckTake; split <;> rfl
@[simp] theorem ckTake_rdLen (bs : List Byte) (s : State) : (ckTake bs s).rdLen = s.rdLen := by unfold ckTake; split <;> rfl
@[simp] theorem ckTake_rdQ (bs : List Byte) (s : State) : (ckTake bs s).rdQ = s.rdQ := by unfold ckTake; split <;> rfl
@[simp] theorem ckTake_lz4flg (bs : List Byte) (s : State) : (ckTake bs s).lz4flg = s.lz4flg := by unfold ckTake; split <;> rfl
@[simp] theorem ckTake_content (bs : List Byte) (s : State) : (ckTake bs s).content = s.content := by unfold ckTake; split <;> rfl
@[simp] theorem ckTake_deferred (bs : List Byte) (s : State) : (ckTake bs s).deferred = s.deferred := by unfold ckTake; split <;> rfl
@[simp] theorem ckTake_cancelReq (bs : List Byte) (s : State) : (ckTake bs s).cancelReq = s.cancelReq := by unfold ckTake; split <;> rfl
@[simp] theorem ckTake_actor (bs : List Byte) (s : State) : (ckTake bs s).actor = s.actor := by unfold ckTake; split <;> rfl
@[simp] theorem ckTake_agenda (bs : List Byte) (s : State) : (ckTake bs s).agenda = s.agenda := by unfold ckTake; split <;> rfl
@[simp] theorem ckTake_readData (bs : List Byte) (s : State) : (ckTake bs s).readData = s.readData := by unfold ckTake; split <;> rfl
@[simp] theorem ckTake_freeIdx (bs : List Byte) (s : State) : (ckTake bs s).freeIdx = s.freeIdx := by unfold ckTake; split <;> rfl

@[simp] theorem emit_params (bs : List Byte) (s : State) : (emit bs s).params = s.params := by simp only [emit]; split <;> rfl
@[simp] theorem emit_regs (bs : List Byte) (s : State) : (emit bs s).regs = s.regs := by simp only [emit]; split <;> rfl
@[simp] theorem emit_scfg (bs : List Byte) (s : State) : (emit bs s).scfg = s.scfg := by simp only [emit]; split <;> rfl
@[simp] theorem emit_phase (bs : List Byte) (s : State) : (emit bs s).phase = s.phase := by simp only [emit]; split <;> rfl
@[simp] theorem emit_dir (bs : List Byte) (s : State) : (emit bs s).dir = s.dir := by simp only [emit]; split <;> rfl
@[simp] theorem emit_errcode (bs : List Byte) (s : State) : (emit bs s).errcode = s.errcode := by simp only [emit]; split <;> rfl
@[simp] theorem emit_crc (bs : List Byte) (s : State) : (emit bs s).crc = s.crc := by simp only [emit]; split <;> rfl
@[simp] theorem emit_adler (bs : List Byte) (s : State) : (emit bs s).adler = s.adler := by simp only [emit]; split <;> rfl
@[simp] theorem emit_nextDispatch (bs : List Byte) (s : State) : (emit bs s).nextDispatch = s.nextDispatch := by simp only [emit]; split <;> rfl
@[simp] theorem emit_nextCollect (bs : List Byte) (s : State) : (emit bs s).nextCollect = s.nextCollect := by simp only [emit]; split <;> rfl
@[simp] theorem emit_incnt (bs : List Byte) (s : State) : (emit bs s).incnt = s.incnt := by simp only [emit]; split <;> rfl
@[simp] theorem emit_unp (bs : List Byte) (s : State) : (emit bs s).unp = s.unp := by simp only [emit]; split <;> rfl
@[simp] theorem emit_tabs (bs : List Byte) (s : State) : (emit bs s).tabs = s.tabs := by simp only [emit]; split <;> rfl
@[simp] theorem emit_engines (bs : List Byte) (s : State) : (emit bs s).engines = s.engines := by simp only [emit]; split <;> rfl
@[simp] theorem emit_inp (bs : List Byte) (s : State) : (emit bs s).inp = s.inp := by simp only [emit]; split <;> rfl
@[simp] theorem emit_strm (bs : List Byte) (s : State) : (emit bs s).strm = s.strm := by simp only [emit]; split <;> rfl
@[simp] theorem emit_inEnded (bs : List Byte) (s : State) : (emit bs s).inEnded = s.inEnded := by simp only [emit]; split <;> rfl
@[simp] theorem emit_discard (bs : List Byte) (s : State) : (emit bs s).discard = s.discard := by simp only [emit]; split <;> rfl
@[simp] theorem emit_asm (bs : List Byte) (s : State) : (emit bs s).asm = s.asm := by simp only [emit]; split <;> rfl
@[simp] theorem emit_blockQ (bs : List Byte) (s : State) : (emit bs s).blockQ = s.blockQ := by simp only [emit]; split <;> rfl
@[simp] theorem emit_nextCut (bs : List Byte) (s : State) : (emit bs s).nextCut = s.nextCut := by simp only [emit]; split <;> rfl
@[simp] theorem emit_want (bs : List Byte) (s : State) : (emit bs s).want = s.want := by simp only [emit]; split <;> rfl
@[simp] theorem emit_rdLen (bs : List Byte) (s : State) : (emit bs s).rdLen = s.rdLen := by simp only [emit]; split <;> rfl
@[simp] theorem emit_rdQ (bs : List Byte) (s : State) : (emit bs s).rdQ = s.rdQ := by simp only [emit]; split <;> rfl
@[simp] theorem emit_lz4flg (bs : List Byte) (s : State) : (emit bs s).lz4flg = s.lz4flg := by simp only [emit]; split <;> rfl
@[simp] theorem emit_content (bs : List Byte) (s : State) : (emit bs s).content = s.content := by simp only [emit]; split <;> rfl
@[simp] theorem emit_deferred (bs : List Byte) (s : State) : (emit bs s).deferred = s.deferred := by simp only [emit]; split <;> rfl
@[simp] theorem emit_cancelReq (bs : List Byte) (s : State) : (emit bs s).cancelReq = s.cancelReq := by simp only [emit]; split <;> rfl
@[simp] theorem emit_actor (bs : List Byte) (s : State) : (emit bs s).actor = s.actor := by simp only [emit]; split <;> rfl
@[simp] theorem emit_agenda (bs : List Byte) (s : State) : (emit bs s).agenda = s.agenda := by simp only [emit]; split <;> rfl
@[simp] theorem emit_readData (bs : List Byte) (s : State) : (emit bs s).readData = s.readData := by simp only [emit]; split <;> rfl
@[simp] theorem emit_freeIdx (bs : List Byte) (s : State) : (emit bs s).freeIdx = s.freeIdx := by simp only [emit]; split <;> rfl

@[simp] theorem litOut_params (b : Byte) (s : State) : (litOut b s).params = s.params := by simp [litOut]
@[simp] theorem litOut_regs (b : Byte) (s : State) : (litOut b s).regs = s.regs := by simp [litOut]
@[simp] theorem litOut_scfg (b : Byte) (s : State) : (litOut b s).scfg = s.scfg := by simp [litOut]
@[simp] theorem litOut_phase (b : Byte) (s : State) : (litOut b s).phase = s.phase := by simp [litOut]
@[simp] theorem litOut_dir (b : Byte) (s : State) : (litOut b s).dir = s.dir := by simp [litOut]
@[simp] theorem litOut_errcode (b : Byte) (s : State) : (litOut b s).errcode = s.errcode := by simp [litOut]
@[simp] theorem litOut_nextDispatch (b : Byte) (s : State) : (litOut b s).nextDispatch = s.nextDispatch := by simp [litOut]
@[simp] theorem litOut_nextCollect (b : Byte) (s : State) : (litOut b s).nextCollect = s.nextCollect := by simp [litOut]
@[simp] theorem litOut_incnt (b : Byte) (s : State) : (litOut b s).incnt = s.incnt := by simp [litOut]
@[simp] theorem litOut_tabs (b : Byte) (s : State) : (litOut b s).tabs = s.tabs := by simp [litOut]
@[simp] theorem litOut_engines (b : Byte) (s : State) : (litOut b s).engines = s.engines := by simp [litOut]
@[simp] theorem litOut_inp (b : Byte) (s : State) : (litOut b s).inp = s.inp := by simp [litOut]
@[simp] theorem litOut_strm (b : Byte) (s : State) : (litOut b s).strm = s.strm := by simp [litOut]
@[simp] theorem litOut_inEnded (b : Byte) (s : State) : (litOut b s).inEnded = s.inEnded := by simp [litOut]
@[simp] theorem litOut_discard (b : Byte) (s : State) : (litOut b s).discard = s.discard := by simp [litOut]
@[simp] theorem litOut_asm (b : Byte) (s : State) : (litOut b s).asm = s.asm := by simp [litOut]
@[simp] theorem litOut_blockQ (b : Byte) (s : State) : (litOut b s).blockQ = s.blockQ := by simp [litOut]
@[simp] theorem litOut_nextCut (b : Byte) (s : State) : (litOut b s).nextCut = s.nextCut := by simp [litOut]
@[simp] theorem litOut_want (b : Byte) (s : State) : (litOut b s).want = s.want := by simp [litOut]
@[simp] theorem litOut_rdLen (b : Byte) (s : State) : (litOut b s).rdLen = s.rdLen := by simp [litOut]
@[simp] theorem litOut_rdQ (b : Byte) (s : State) : (litOut b s).rdQ = s.rdQ := by simp [litOut]
@[simp] theorem litOut_lz4flg (b : Byte) (s : State) : (litOut b s).lz4flg = s.lz4flg := by simp [litOut]
@[simp] theorem litOut_content (b : Byte) (s : State) : (litOut b s).content = s.content := by simp [litOut]
@[simp] theorem litOut_deferred (b : Byte) (s : State) : (litOut b s).deferred = s.deferred := by simp [litOut]
@[simp] theorem litOut_cancelReq (b : Byte) (s : State) : (litOut b s).cancelReq = s.cancelReq := by simp [litOut]
@[simp] theorem litOut_actor (b : Byte) (s : State) : (litOut b s).actor = s.actor := by simp [litOut]
@[simp] theorem litOut_agenda (b : Byte) (s : State) : (litOut b s).agenda = s.agenda := by simp [litOut]
@[simp] theorem litOut_readData (b : Byte) (s : State) : (litOut b s).readData = s.readData := by simp [litOut]
@[simp] theorem litOut_freeIdx (b : Byte) (s : State) : (litOut b s).freeIdx = s.freeIdx := by simp [litOut]

@[simp] theorem litsOut_params (bs : List Byte) (s : State) : (litsOut bs s).params = s.params := by
  induction bs generalizing s with
  | nil => rfl
  | cons b bs ih => simp [litsOut, ih]
@[simp] theorem litsOut_regs (bs : List Byte) (s : State) : (litsOut bs s).regs = s.regs := by
  induction bs generalizing s with
  | nil => rfl
  | cons b bs ih => simp [litsOut, ih]
@[simp] theorem litsOut_scfg (bs : List Byte) (s : State) : (litsOut bs s).scfg = s.scfg := by
  induction bs generalizing s with
  | nil => rfl
  | cons b bs ih => simp [litsOut, ih]
@[simp] theorem litsOut_phase (bs : List Byte) (s : State) : (litsOut bs s).phase = s.phase := by
  induction bs generalizing s with
  | nil => rfl
  | cons b bs ih => simp [litsOut, ih]
@[simp] theorem litsOut_dir (bs : List Byte) (s : State) : (litsOut bs s).dir = s.dir := by
  induction bs generalizing s with
  | nil => rfl
  | cons b bs ih => simp [litsOut, ih]
@[simp] theorem litsOut_errcode (bs : List Byte) (s : State) : (litsOut bs s).errcode = s.errcode := by
  induction bs generalizing s with
  | nil => rfl
  | cons b bs ih => simp [litsOut, ih]
@[simp] theorem litsOut_nextDispatch (bs : List Byte) (s : State) : (litsOut bs s).nextDispatch = s.nextDispatch := by
  induction bs generalizing s with
  | nil => rfl
  | cons b bs ih => simp [litsOut, ih]
@[simp] theorem litsOut_nextCollect (bs : List Byte) (s : State) : (litsOut bs s).nextCollect = s.nextCollect := by
  induction bs generalizing s with
  | nil => rfl
  | cons b bs ih => simp [litsOut, ih]
@[simp] theorem litsOut_incnt (bs : List Byte) (s : State) : (litsOut bs s).incnt = s.incnt := by
  induction bs generalizing s with
  | nil => rfl
  | cons b bs ih => simp [litsOut, ih]
@[simp] theorem litsOut_tabs (bs : List Byte) (s : State) : (litsOut bs s).tabs = s.tabs := by
  induction bs generalizing s with
  | nil => rfl
  | cons b bs ih => simp [litsOut, ih]
@[simp] theorem litsOut_engines (bs : List Byte) (s : State) : (litsOut bs s).engines = s.engines := by
  induction bs generalizing s with
  | nil => rfl
  | cons b bs ih => simp [litsOut, ih]
@[simp] theorem litsOut_inp (bs : List Byte) (s : State) : (litsOut bs s).inp = s.inp := by
  induction bs generalizing s with
  | nil => rfl
  | cons b bs ih => simp [litsOut, ih]
@[simp] theorem litsOut_strm (bs : List Byte) (s : State) : (litsOut bs s).strm = s.strm := by
  induction bs generalizing s with
  | nil => rfl
  | cons b bs ih => simp [litsOut, ih]
@[simp] theorem litsOut_inEnded (bs : List Byte) (s : State) : (litsOut bs s).inEnded = s.inEnded := by
  induction bs generalizing s with
  | nil => rfl
  | cons b bs ih => simp [litsOut, ih]
@[simp] theorem litsOut_discard (bs : List Byte) (s : State) : (litsOut bs s).discard = s.discard := by
  induction bs generalizing s with
  | nil => rfl
  | cons b bs ih => simp [litsOut, ih]
@[simp] theorem litsOut_asm (bs : List Byte) (s : State) : (litsOut bs s).asm = s.asm := by
  induction bs generalizing s with
  | nil => rfl
  | cons b bs ih => simp [litsOut, ih]
@[simp] theorem litsOut_blockQ (bs : List Byte) (s : State) : (litsOut bs s).blockQ = s.blockQ := by
  induction bs generalizing s with
  | nil => rfl
  | cons b bs ih => simp [litsOut, ih]
@[simp] theorem litsOut_nextCut (bs : List Byte) (s : State) : (litsOut bs s).nextCut = s.nextCut := by
  induction bs generalizing s with
  | nil => rfl
  | cons b bs ih => simp [litsOut, ih]
@[simp] theorem litsOut_want (bs : List Byte) (s : State) : (litsOut bs s).want = s.want := by
  induction bs generalizing s with
  | nil => rfl
  | cons b bs ih => simp [litsOut, ih]
@[simp] theorem litsOut_rdLen (bs : List Byte) (s : State) : (litsOut bs s).rdLen = s.rdLen := by
  induction bs generalizing s with
  | nil => rfl
  | cons b bs ih => simp [litsOut, ih]
@[simp] theorem litsOut_rdQ (bs : List Byte) (s : State) : (litsOut bs s).rdQ = s.rdQ := by
  induction bs generalizing s with
  | nil => rfl
  | cons b bs ih => simp [litsOut, ih]
@[simp] theorem litsOut_lz4flg (bs : List Byte) (s : State) : (litsOut bs s).lz4flg = s.lz4flg := by
  induction bs generalizing s with
  | nil => rfl
  | cons b bs ih => simp [litsOut, ih]
@[simp] theorem litsOut_content (bs : List Byte) (s : State) : (litsOut bs s).content = s.content := by
  induction bs generalizing s with
  | nil => rfl
  | cons b bs ih => simp [litsOut, ih]
@[simp] theorem litsOut_deferred (bs : List Byte) (s : State) : (litsOut bs s).deferred = s.deferred := by
  induction bs generalizing s with
  | nil => rfl
  | cons b bs ih => simp [litsOut, ih]
@[simp] theorem litsOut_cancelReq (bs : List Byte) (s : State) : (litsOut bs s).cancelReq = s.cancelReq := by
  induction bs generalizing s with
  | nil => rfl
  | cons b bs ih => simp [litsOut, ih]
@[simp] theorem litsOut_actor (bs : List Byte) (s : State) : (litsOut bs s).actor = s.actor := by
  induction bs generalizing s with
  | nil => rfl
  | cons b bs ih => simp [litsOut, ih]
@[simp] theorem litsOut_agenda (bs : List Byte) (s : State) : (litsOut bs s).agenda = s.agenda := by
  induction bs generalizing s with
  | nil => rfl
  | cons b bs ih => simp [litsOut, ih]
@[simp] theorem litsOut_readData (bs : List Byte) (s : State) : (litsOut bs s).readData = s.readData := by
  induction bs generalizing s with
  | nil => rfl
  | cons b bs ih => simp [litsOut, ih]
@[simp] theorem litsOut_freeIdx (bs : List Byte) (s : State) : (litsOut bs s).freeIdx = s.freeIdx := by
  induction bs generalizing s with
  | nil => rfl
  | cons b bs ih => simp [litsOut, ih]

@[simp] theorem failWith_params (k : BitVec 4) (d : BitVec 8) (e : Nat) (b : Word) (s : State) : (failWith k d e b s).params = s.params := by unfold failWith; split <;> rfl
@[simp] theorem failWith_scfg (k : BitVec 4) (d : BitVec 8) (e : Nat) (b : Word) (s : State) : (failWith k d e b s).scfg = s.scfg := by unfold failWith; split <;> rfl
@[simp] theorem failWith_dir (k : BitVec 4) (d : BitVec 8) (e : Nat) (b : Word) (s : State) : (failWith k d e b s).dir = s.dir := by unfold failWith; split <;> rfl
@[simp] theorem failWith_crc (k : BitVec 4) (d : BitVec 8) (e : Nat) (b : Word) (s : State) : (failWith k d e b s).crc = s.crc := by unfold failWith; split <;> rfl
@[simp] theorem failWith_adler (k : BitVec 4) (d : BitVec 8) (e : Nat) (b : Word) (s : State) : (failWith k d e b s).adler = s.adler := by unfold failWith; split <;> rfl
@[simp] theorem failWith_nextDispatch (k : BitVec 4) (d : BitVec 8) (e : Nat) (b : Word) (s : State) : (failWith k d e b s).nextDispatch = s.nextDispatch := by unfold failWith; split <;> rfl
@[simp] theorem failWith_nextCollect (k : BitVec 4) (d : BitVec 8) (e : Nat) (b : Word) (s : State) : (failWith k d e b s).nextCollect = s.nextCollect := by unfold failWith; split <;> rfl
@[simp] theorem failWith_incnt (k : BitVec 4) (d : BitVec 8) (e : Nat) (b : Word) (s : State) : (failWith k d e b s).incnt = s.incnt := by unfold failWith; split <;> rfl
@[simp] theorem failWith_outcnt (k : BitVec 4) (d : BitVec 8) (e : Nat) (b : Word) (s : State) : (failWith k d e b s).outcnt = s.outcnt := by unfold failWith; split <;> rfl
@[simp] theorem failWith_unp (k : BitVec 4) (d : BitVec 8) (e : Nat) (b : Word) (s : State) : (failWith k d e b s).unp = s.unp := by unfold failWith; split <;> rfl
@[simp] theorem failWith_tabs (k : BitVec 4) (d : BitVec 8) (e : Nat) (b : Word) (s : State) : (failWith k d e b s).tabs = s.tabs := by unfold failWith; split <;> rfl
@[simp] theorem failWith_inp (k : BitVec 4) (d : BitVec 8) (e : Nat) (b : Word) (s : State) : (failWith k d e b s).inp = s.inp := by unfold failWith; split <;> rfl
@[simp] theorem failWith_strm (k : BitVec 4) (d : BitVec 8) (e : Nat) (b : Word) (s : State) : (failWith k d e b s).strm = s.strm := by unfold failWith; split <;> rfl
@[simp] theorem failWith_inEnded (k : BitVec 4) (d : BitVec 8) (e : Nat) (b : Word) (s : State) : (failWith k d e b s).inEnded = s.inEnded := by unfold failWith; split <;> rfl
@[simp] theorem failWith_nextCut (k : BitVec 4) (d : BitVec 8) (e : Nat) (b : Word) (s : State) : (failWith k d e b s).nextCut = s.nextCut := by unfold failWith; split <;> rfl
@[simp] theorem failWith_rdLen (k : BitVec 4) (d : BitVec 8) (e : Nat) (b : Word) (s : State) : (failWith k d e b s).rdLen = s.rdLen := by unfold failWith; split <;> rfl
@[simp] theorem failWith_rdQ (k : BitVec 4) (d : BitVec 8) (e : Nat) (b : Word) (s : State) : (failWith k d e b s).rdQ = s.rdQ := by unfold failWith; split <;> rfl
@[simp] theorem failWith_lz4flg (k : BitVec 4) (d : BitVec 8) (e : Nat) (b : Word) (s : State) : (failWith k d e b s).lz4flg = s.lz4flg := by unfold failWith; split <;> rfl
@[simp] theorem failWith_content (k : BitVec 4) (d : BitVec 8) (e : Nat) (b : Word) (s : State) : (failWith k d e b s).content = s.content := by unfold failWith; split <;> rfl
@[simp] theorem failWith_actor (k : BitVec 4) (d : BitVec 8) (e : Nat) (b : Word) (s : State) : (failWith k d e b s).actor = s.actor := by unfold failWith; split <;> rfl
@[simp] theorem failWith_agenda (k : BitVec 4) (d : BitVec 8) (e : Nat) (b : Word) (s : State) : (failWith k d e b s).agenda = s.agenda := by unfold failWith; split <;> rfl
@[simp] theorem failWith_readData (k : BitVec 4) (d : BitVec 8) (e : Nat) (b : Word) (s : State) : (failWith k d e b s).readData = s.readData := by unfold failWith; split <;> rfl

@[simp] theorem failSession_params (d : Detail) (s : State) : (failSession d s).params = s.params := by simp [failSession]
@[simp] theorem failSession_scfg (d : Detail) (s : State) : (failSession d s).scfg = s.scfg := by simp [failSession]
@[simp] theorem failSession_dir (d : Detail) (s : State) : (failSession d s).dir = s.dir := by simp [failSession]
@[simp] theorem failSession_crc (d : Detail) (s : State) : (failSession d s).crc = s.crc := by simp [failSession]
@[simp] theorem failSession_adler (d : Detail) (s : State) : (failSession d s).adler = s.adler := by simp [failSession]
@[simp] theorem failSession_nextDispatch (d : Detail) (s : State) : (failSession d s).nextDispatch = s.nextDispatch := by simp [failSession]
@[simp] theorem failSession_nextCollect (d : Detail) (s : State) : (failSession d s).nextCollect = s.nextCollect := by simp [failSession]
@[simp] theorem failSession_incnt (d : Detail) (s : State) : (failSession d s).incnt = s.incnt := by simp [failSession]
@[simp] theorem failSession_outcnt (d : Detail) (s : State) : (failSession d s).outcnt = s.outcnt := by simp [failSession]
@[simp] theorem failSession_unp (d : Detail) (s : State) : (failSession d s).unp = s.unp := by simp [failSession]
@[simp] theorem failSession_tabs (d : Detail) (s : State) : (failSession d s).tabs = s.tabs := by simp [failSession]
@[simp] theorem failSession_inp (d : Detail) (s : State) : (failSession d s).inp = s.inp := by simp [failSession]
@[simp] theorem failSession_strm (d : Detail) (s : State) : (failSession d s).strm = s.strm := by simp [failSession]
@[simp] theorem failSession_inEnded (d : Detail) (s : State) : (failSession d s).inEnded = s.inEnded := by simp [failSession]
@[simp] theorem failSession_nextCut (d : Detail) (s : State) : (failSession d s).nextCut = s.nextCut := by simp [failSession]
@[simp] theorem failSession_rdLen (d : Detail) (s : State) : (failSession d s).rdLen = s.rdLen := by simp [failSession]
@[simp] theorem failSession_rdQ (d : Detail) (s : State) : (failSession d s).rdQ = s.rdQ := by simp [failSession]
@[simp] theorem failSession_lz4flg (d : Detail) (s : State) : (failSession d s).lz4flg = s.lz4flg := by simp [failSession]
@[simp] theorem failSession_content (d : Detail) (s : State) : (failSession d s).content = s.content := by simp [failSession]
@[simp] theorem failSession_actor (d : Detail) (s : State) : (failSession d s).actor = s.actor := by simp [failSession]
@[simp] theorem failSession_agenda (d : Detail) (s : State) : (failSession d s).agenda = s.agenda := by simp [failSession]
@[simp] theorem failSession_readData (d : Detail) (s : State) : (failSession d s).readData = s.readData := by simp [failSession]

@[simp] theorem raiseSeq_params (d : Detail) (s : State) : (raiseSeq d s).params = s.params := by unfold raiseSeq; split <;> simp
@[simp] theorem raiseSeq_scfg (d : Detail) (s : State) : (raiseSeq d s).scfg = s.scfg := by unfold raiseSeq; split <;> simp
@[simp] theorem raiseSeq_dir (d : Detail) (s : State) : (raiseSeq d s).dir = s.dir := by unfold raiseSeq; split <;> simp
@[simp] theorem raiseSeq_crc (d : Detail) (s : State) : (raiseSeq d s).crc = s.crc := by unfold raiseSeq; split <;> simp
@[simp] theorem raiseSeq_adler (d : Detail) (s : State) : (raiseSeq d s).adler = s.adler := by unfold raiseSeq; split <;> simp
@[simp] theorem raiseSeq_nextDispatch (d : Detail) (s : State) : (raiseSeq d s).nextDispatch = s.nextDispatch := by unfold raiseSeq; split <;> simp
@[simp] theorem raiseSeq_nextCollect (d : Detail) (s : State) : (raiseSeq d s).nextCollect = s.nextCollect := by unfold raiseSeq; split <;> simp
@[simp] theorem raiseSeq_incnt (d : Detail) (s : State) : (raiseSeq d s).incnt = s.incnt := by unfold raiseSeq; split <;> simp
@[simp] theorem raiseSeq_outcnt (d : Detail) (s : State) : (raiseSeq d s).outcnt = s.outcnt := by unfold raiseSeq; split <;> simp
@[simp] theorem raiseSeq_unp (d : Detail) (s : State) : (raiseSeq d s).unp = s.unp := by unfold raiseSeq; split <;> simp
@[simp] theorem raiseSeq_tabs (d : Detail) (s : State) : (raiseSeq d s).tabs = s.tabs := by unfold raiseSeq; split <;> simp
@[simp] theorem raiseSeq_inp (d : Detail) (s : State) : (raiseSeq d s).inp = s.inp := by unfold raiseSeq; split <;> simp
@[simp] theorem raiseSeq_strm (d : Detail) (s : State) : (raiseSeq d s).strm = s.strm := by unfold raiseSeq; split <;> simp
@[simp] theorem raiseSeq_inEnded (d : Detail) (s : State) : (raiseSeq d s).inEnded = s.inEnded := by unfold raiseSeq; split <;> simp
@[simp] theorem raiseSeq_nextCut (d : Detail) (s : State) : (raiseSeq d s).nextCut = s.nextCut := by unfold raiseSeq; split <;> simp
@[simp] theorem raiseSeq_rdLen (d : Detail) (s : State) : (raiseSeq d s).rdLen = s.rdLen := by unfold raiseSeq; split <;> simp
@[simp] theorem raiseSeq_rdQ (d : Detail) (s : State) : (raiseSeq d s).rdQ = s.rdQ := by unfold raiseSeq; split <;> simp
@[simp] theorem raiseSeq_lz4flg (d : Detail) (s : State) : (raiseSeq d s).lz4flg = s.lz4flg := by unfold raiseSeq; split <;> simp
@[simp] theorem raiseSeq_content (d : Detail) (s : State) : (raiseSeq d s).content = s.content := by unfold raiseSeq; split <;> simp
@[simp] theorem raiseSeq_actor (d : Detail) (s : State) : (raiseSeq d s).actor = s.actor := by unfold raiseSeq; split <;> simp
@[simp] theorem raiseSeq_agenda (d : Detail) (s : State) : (raiseSeq d s).agenda = s.agenda := by unfold raiseSeq; split <;> simp
@[simp] theorem raiseSeq_readData (d : Detail) (s : State) : (raiseSeq d s).readData = s.readData := by unfold raiseSeq; split <;> simp

end Sys2Proof.Laws
end

