-- ==== Sys2Proof/Laws/Ops.lean ====
section
/-! SUPPORT. What the shared operations can do, said once each; every memory operation keeps the canonical form. -/

namespace Sys2Proof.Laws

open Machine

/-! ### Byte memories -/

/-- Every address of a memory is at least `a`. -/
def AddrFrom (a : Nat) : Memory → Prop
  | [] => True
  | c :: _ => a ≤ c.1

theorem wf_tail {c : Host.Cell} {m : Memory} (h : Memory.wf (c :: m) = true) : Memory.wf m = true := by
  cases m with
  | nil => rfl
  | cons d m => simp [Memory.wf] at h; exact h.2

theorem wf_cons {c : Host.Cell} {m : Memory} (h : AddrFrom (c.1 + 1) m) (hm : Memory.wf m = true) :
    Memory.wf (c :: m) = true := by
  cases m with
  | nil => rfl
  | cons d m => simp [AddrFrom] at h; simp [Memory.wf, hm]; omega

theorem addrFrom_tail {c : Host.Cell} {m : Memory} (h : Memory.wf (c :: m) = true) : AddrFrom (c.1 + 1) m := by
  cases m with
  | nil => trivial
  | cons d m => simp [Memory.wf] at h; simp [AddrFrom]; omega

theorem addrFrom_write {m : Memory} {x a : Nat} {b : Byte} (h : AddrFrom x m) (ha : x ≤ a) :
    AddrFrom x (m.write a b) := by
  cases m with
  | nil => simpa [Memory.write, AddrFrom] using ha
  | cons c m =>
    simp [AddrFrom] at h
    simp only [Memory.write]
    split
    · simpa [AddrFrom] using ha
    · split <;> simp [AddrFrom] <;> omega

/-- A write keeps the canonical form. -/
theorem wf_write {m : Memory} (h : Memory.wf m = true) (a : Nat) (b : Byte) : Memory.wf (m.write a b) = true := by
  induction m with
  | nil => rfl
  | cons c m ih =>
    simp only [Memory.write]
    split
    · exact wf_cons (by simp [AddrFrom]; omega) h
    · split
      · have := addrFrom_tail h
        exact wf_cons (by subst a; simpa using this) (wf_tail h)
      · exact wf_cons (addrFrom_write (addrFrom_tail h) (by omega)) (ih (wf_tail h))

/-- What a read gives after a write. -/
theorem read_write (m : Memory) (a x : Nat) (b : Byte) :
    (m.write a b).read x = if a = x then some b else m.read x := by
  induction m with
  | nil => simp [Memory.write, Memory.read]
  | cons c m ih =>
    simp only [Memory.write]
    split
    · simp [Memory.read]
    · split
      · subst a; simp only [Memory.read]; split <;> simp
      · simp only [Memory.read, ih]; split <;> rename_i h <;> simp_all

theorem addrFrom_ofBytesAt (a : Nat) (bs : List Byte) : AddrFrom a (Memory.ofBytesAt a bs) := by
  cases bs <;> simp [Memory.ofBytesAt, AddrFrom]

/-- A loaded byte string is in canonical form. -/
theorem wf_ofBytesAt (a : Nat) (bs : List Byte) : Memory.wf (Memory.ofBytesAt a bs) = true := by
  induction bs generalizing a with
  | nil => rfl
  | cons b bs ih => exact wf_cons (addrFrom_ofBytesAt (a + 1) bs) (ih (a + 1))

/-- `MemWrite` of a whole block keeps the canonical form. -/
theorem wf_ofBytes (bs : List Byte) : Memory.wf (Memory.ofBytes bs) = true := wf_ofBytesAt 0 bs

/-! ### Taking a failure and ending a session -/

/-- Outside a session a failure does nothing (R440). -/
theorem failWith_idle {s : State} (h : busy s = false) (k : BitVec 4) (d : BitVec 8) (e : Nat) (b : Word) :
    failWith k d e b s = s := by simp [failWith, h]

/-- Taking a failure in a session (R440). -/
theorem failWith_busy {s : State} (h : busy s = true) (k : BitVec 4) (d : BitVec 8) (e : Nat) (b : Word) :
    failWith k d e b s =
      { dropWork (closeCut s) with
        regs := { cutRegs s with errinfo := errinfoWord d e, errblock := b }
        errcode := k, phase := .failed, freeIdx := s.freeIdx + 2 } := by simp [failWith, h]

/-- A `raise` of the sequencer either waits or is delivered (R399, R440). -/
theorem raiseSeq_cases (d : Detail) (s : State) :
    (s.nextCollect = s.nextCut ∧ raiseSeq d s = failSession d s) ∨
    (s.nextCollect ≠ s.nextCut ∧ raiseSeq d s = { s with deferred := some d, want := .nothing }) := by
  by_cases h : s.nextCollect = s.nextCut
  · exact .inl ⟨h, by simp [raiseSeq, h]⟩
  · exact .inr ⟨h, by simp [raiseSeq, h]⟩

/-- A start command's outcome (R384, R385). -/
theorem startSession_cases (d : Dir) (s : State) :
    (cfgCheck s.params (sampleCfg s.regs) = none ∧ startSession d s = initSession d s) ∨
    (∃ e, cfgCheck s.params (sampleCfg s.regs) = some e ∧ startSession d s = failSession e (initSession d s)) := by
  unfold startSession
  simp only [initSession]
  cases h : cfgCheck s.params (sampleCfg s.regs) with
  | none => exact .inl ⟨rfl, rfl⟩
  | some e => exact .inr ⟨e, rfl, rfl⟩

/-! ### Decoder output -/

@[simp] theorem litOut_unp (b : Byte) (s : State) :
    (litOut b s).unp = { s.unp with outwin := s.unp.outwin.write s.unp.produced.toNat b,
                                    produced := s.unp.produced + 1 } := by simp [litOut]

/-- What a copy leaves unchanged (R181). -/
theorem copyOut_frame {off n : Nat} {s t : State} (h : copyOut off n s = some t) :
    ∃ bs : List Byte, bs.length = n ∧ t = litsOut bs s := by
  induction n generalizing s with
  | zero => simp [copyOut] at h; exact ⟨[], rfl, h.symm⟩
  | succ n ih =>
    simp only [copyOut] at h
    split at h
    · cases h
    · rename_i b _
      obtain ⟨bs, hl, ht⟩ := ih h
      exact ⟨b :: bs, by simp [hl], by simpa [litsOut] using ht⟩

/-! ### Engines -/

/-- `withEngine` answers only what its continuation answers, or the fault. -/
theorem withEngine_next {e : Nat} {s t : State} {k : Engine → Res} (h : withEngine e s k = .next t) :
    ∃ g, s.engines[e]? = some g ∧ k g = .next t := by
  unfold withEngine at h
  split at h
  · cases h
  · rename_i g hg; exact ⟨g, hg, h⟩

/-- `ofRead` answers only what its continuation answers, or the fault. -/
theorem ofRead_next {α : Type} {o : Option α} {k : α → Res} {t : State} (h : ofRead o k = .next t) :
    ∃ a, o = some a ∧ k a = .next t := by
  unfold ofRead at h
  split at h
  · cases h
  · rename_i a; exact ⟨a, rfl, h⟩

/-- What an engine's literals do (R180, R257): the window and `PRODUCED` grow, the bytes are counted and appended to the
result, and nothing else changes. -/
theorem engLitsOut_eq (bs : List Byte) (g : Engine) :
    ∃ m, engLitsOut bs g = { g with
      unp := { g.unp with outwin := m, produced := g.unp.produced + BitVec.ofNat 64 bs.length }
      outlen := g.outlen + BitVec.ofNat 32 bs.length
      result := { g.result with bytes := g.result.bytes ++ bs } } := by
  induction bs generalizing g with
  | nil => exact ⟨g.unp.outwin, by simp [engLitsOut]⟩
  | cons b bs ih =>
    obtain ⟨m, hm⟩ := ih (engLitOut b g)
    refine ⟨m, ?_⟩
    rw [engLitsOut, hm]
    simp [engLitOut, putBytes, BitVec.ofNat_add, BitVec.add_assoc]
    exact ⟨BitVec.add_comm _ _, BitVec.add_comm _ _⟩

@[simp] theorem beginBlock_produced (g : Engine) : (beginBlock g).unp.produced = 0 := rfl
@[simp] theorem beginBlock_outwin (g : Engine) : (beginBlock g).unp.outwin = [] := rfl
@[simp] theorem beginBlock_result (g : Engine) : (beginBlock g).result = g.result := rfl
@[simp] theorem beginBlock_unit (g : Engine) : (beginBlock g).unit = g.unit := rfl
@[simp] theorem beginBlock_blklen (g : Engine) : (beginBlock g).blklen = g.blklen := rfl

/-- A compression leaves an engine's `BLKMAX` at a hand-over (log entry 31). -/
theorem unitBlkmax_compress {s : State} (g : Engine) (h : s.dir = .compress) : unitBlkmax s g = g.unp.blkmax := by
  simp [unitBlkmax, h]

/-- A decompression loads the frame's `BLKMAX` at a hand-over (log entry 31). -/
theorem unitBlkmax_decompress {s : State} (g : Engine) (h : s.dir = .decompress) : unitBlkmax s g = s.unp.blkmax := by
  simp [unitBlkmax, h]

/-! ### LZ4 length fields -/

/-- The escape bytes of a length field (R326): 255s and one other byte add up. -/
theorem lz4ReadExt_escape {b : Byte} (hb : b ≠ 255#8) (n v : Nat) (rest : List Byte) :
    lz4ReadExt v (List.replicate n 255#8 ++ b :: rest) = some (v + 255 * n + b.toNat, rest) := by
  induction n generalizing v with
  | zero => simp [lz4ReadExt, hb]
  | succ n ih =>
    have e : v + 255 + 255 * n = v + 255 * (n + 1) := by omega
    simp [List.replicate_succ, lz4ReadExt, ih, e]

/-- Escape bytes that run to the end are no length (R326). -/
theorem lz4ReadExt_cut (n v : Nat) : lz4ReadExt v (List.replicate n 255#8) = none := by
  induction n generalizing v with
  | zero => rfl
  | succ n ih => simp [List.replicate_succ, lz4ReadExt, ih]

/-- A length field reads the value its bytes stand for, and leaves the bytes after them (R326). -/
theorem lz4ReadLen_bytes {f v : Nat} {esc : List Byte} (h : Safety.Lz4LengthBytes f esc v) (rest : List Byte) :
    lz4ReadLen f (esc ++ rest) = some (v, rest) := by
  obtain ⟨hf, rfl, rfl⟩ | ⟨rfl, n, b, hb, rfl, rfl⟩ := h
  · simp [lz4ReadLen, Nat.ne_of_lt hf]
  · simpa [lz4ReadLen] using lz4ReadExt_escape hb n 15 rest

/-! ### Stream position -/

/-- Moving to a place where `left` bits of the source are unread sets the bit position to what has been read (R25). -/
theorem moveTo_position {len left : Nat} (u : Unpacker) (h : len < 2 ^ 64) :
    8 * (moveTo len left u).cur.toNat + (moveTo len left u).bitpos.toNat = 8 * len - left := by
  simp only [moveTo, BitVec.toNat_ofNat]
  omega

/-- What is unread is the source without the bits before the position (R72). -/
theorem unreadBits_eq (u : Unpacker) (src : List Byte) :
    unreadBits u src = (bitsOfBytes src).drop (8 * u.cur.toNat + u.bitpos.toNat) := by
  have bytes : ∀ (n : Nat) (bs : List Byte), bitsOfBytes (bs.drop n) = (bitsOfBytes bs).drop (8 * n) := by
    intro n
    induction n with
    | zero => simp
    | succ n ih =>
      intro bs
      cases bs with
      | nil => simp [bitsOfBytes]
      | cons b bs =>
        have e : 8 * (n + 1) = 8 + 8 * n := by omega
        rw [List.drop_succ_cons, ih, bitsOfBytes, e, ← List.drop_drop]
        have h8 : (bitsOfByte b).length = 8 := by simp [bitsOfByte, natBits]
        rw [List.drop_append_of_le_length (l₂ := bitsOfBytes bs) (by omega),
          List.drop_of_length_le (l := bitsOfByte b) (by omega), List.nil_append]
  rw [unreadBits, bytes, List.drop_drop]

/-- An unpacker that reads some bits of its source and moves by what is left is moved past them (R25, R72). -/
theorem moveTo_movedPast {u : Unpacker} {src : List Byte} {read r : List Bool} (hs : src.length < 2 ^ 64)
    (hr : read ≠ []) (h : unreadBits u src = read ++ r) :
    Safety.MovedPast read r src u (moveTo src.length r.length u) := by
  have hb := bitsOfBytes_length src
  have hd := h
  rw [unreadBits_eq] at hd
  have hl := congrArg List.length hd
  have hn : 0 < read.length := List.length_pos_iff.mpr hr
  rw [List.length_drop, List.length_append, hb] at hl
  have hp := moveTo_position (left := r.length) u hs
  have hq : 8 * src.length - r.length = 8 * u.cur.toNat + u.bitpos.toNat + read.length := by omega
  refine ⟨rfl, h, ?_, by rw [hp, hq]⟩
  rw [unreadBits_eq, hp, hq, ← List.drop_drop, hd]
  simp

/-! ### Code-length symbols -/

/-- Reading a code-length symbol differs from reading any other symbol only in symbol 16 with no length before it
(R260). -/
theorem decodeCl_cases (t : Tree) (noPrev : Bool) (bs : List Bool) :
    (noPrev = true ∧ (∃ r, decSym t bs = .sym 16 r) ∧ decodeCl t noPrev bs = .bad .dflBadRepeat) ∨
    decodeCl t noPrev bs = decodeSym t clExtra clInstr bs := by
  unfold decodeCl
  split
  · rename_i r h
    cases noPrev
    · exact .inr rfl
    · exact .inl ⟨rfl, ⟨r, h⟩, rfl⟩
  · exact .inr rfl

end Sys2Proof.Laws
end

