-- ==== Sys2Proof/Tests/Slice0.lean ====
section
/-! SUPPORT. The model's own tests: ill-formed terms that the check refuses, the decoding of words written out from the
spec's encodings, worked examples of the spec, and for each obligation with hypotheses a state that meets them. -/

namespace Sys2Proof.Tests

set_option Elab.async false

open Machine Safety

/-- Bits as the tests write them: I is 1, O is 0. -/
abbrev I : Bool := true
abbrev O : Bool := false

/-- Nineteen code lengths: thirteen of 4 and six of 5. -/
def clTree : Tree := treeOf (List.replicate 13 4 ++ List.replicate 6 5)

/-- A machine of two engines. -/
def base : State := State.resetWith { nmax := 2, engineFault := [], xxh := .intended }

/-- A session of 1 KiB blocks and window on two engines. -/
def run (d : Dir) (ph : Phase) (cfg : Word) : State :=
  { base with phase := ph, dir := d, scfg := { cfg := cfg, blockKib := 1, windowKib := 1, engines := 2 } }

/-- A decompression that has produced two bytes. -/
def dec2 : State :=
  { run .decompress .body 0 with unp := { base.unp with produced := 2, outwin := [(0, 65), (1, 66)] } }

theorem dec2_filled : WindowFilled dec2.unp := by unfold WindowFilled; decide

/-- An engine that holds four bytes and has gathered two literals. -/
def engine4 (j : Job) (fin : Bool) : Engine :=
  { Engine.reset with
    job := j, blkbuf := [(0, 1), (1, 2), (2, 3), (3, 4)], blklen := 4, litrun := 2, cov := 4
    unit := { Engine.reset.unit with isFinal := fin }
    unp := { Engine.reset.unp with produced := 1, outwin := [(0, 65)], blkmax := 6 } }

theorem engine4_filled (j : Job) (fin : Bool) : BlockFilled (engine4 j fin) := by
  have h : ∀ a, a < 4 → (Memory.read [(0, 1), (1, 2), (2, 3), (3, 4)] a).isSome = true := by decide
  exact h

theorem engine4_window (j : Job) (fin : Bool) : WindowFilled (engine4 j fin).unp := by
  have h : ∀ a, a < 1 → (Memory.read [(0, 65)] a).isSome = true := by decide
  exact h

/-- A compression whose engine 0 is the one above. -/
def packing (cfg : Word) (j : Job) (fin : Bool) : State := { run .compress .body cfg with engines := [engine4 j fin] }

/-- A tree whose last two of n + 2 symbols have the codes 0 and 1. -/
def endTree (n : Nat) : Tree := { lens := List.replicate n 0 ++ [1, 1], codes := List.replicate n 0 ++ [0, 1] }

theorem endTree_ok (n : Nat) : TreeOk (endTree n) := by
  have hl : ∀ a, (endTree n).lens.getD a 0 = if a = n ∨ a = n + 1 then 1 else 0 := by
    intro a; simp only [endTree, List.getD_eq_getElem?_getD, List.getElem?_append, List.getElem?_replicate, List.length_replicate]
    rcases Nat.lt_trichotomy a n with h | h | h
    · rw [if_pos h, if_pos h, if_neg (by omega)]; rfl
    · subst h; simp
    · rw [if_neg (by omega)]
      by_cases h1 : a = n + 1
      · subst h1; simp
      · rw [if_neg (by omega), List.getElem?_eq_none (by simp; omega)]; rfl
  have hc : ∀ a, (endTree n).codes.getD a 0 = if a = n + 1 then 1 else 0 := by
    intro a; simp only [endTree, List.getD_eq_getElem?_getD, List.getElem?_append, List.getElem?_replicate, List.length_replicate]
    rcases Nat.lt_trichotomy a n with h | h | h
    · rw [if_pos h, if_pos h, if_neg (by omega)]; rfl
    · subst h; simp
    · rw [if_neg (by omega)]
      by_cases h1 : a = n + 1
      · subst h1; simp
      · rw [if_neg (by omega), List.getElem?_eq_none (by simp; omega)]; rfl
  refine ⟨by simp [endTree], ?_, ?_⟩
  · intro a; rw [hc, hl]; split_ifs <;> simp_all
  · intro a b _ _ hab; rw [hl, hl, hc, hc]
    intro h1 h2 _
    split_ifs at * <;> simp_all

/-- Limits with a minimum match of 1. -/
def abLimits : MatchLimits := { minMatch := 1, maxMatch := 8, maxOffset := 8, lz4 := false }

/-- The fixed block of literals that a DEFLATE engine packs, token by token. -/
def dflFixed (bs : List Byte) : Option Engine :=
  some (dflEob (bs.foldl (fun g b => dflLit b g)
    (putHeader 1 { engine4 .pack true with tabs := Tables.reset.fixed, result := { Engine.reset.result with bytes := [] } })))

/-- R92. -/
theorem test_wf_refuses_match_offset_0 :
    (Instr.matchTok 0 3).wellFormed = false ∧ (Instr.matchTok 65537 3).wellFormed = false ∧
    (Instr.matchTok 1 2).wellFormed = false ∧ (Instr.matchTok 65536 3).wellFormed = true :=
  by decide +kernel

/-- R101, R257. -/
theorem test_wf_refuses_stored_body :
    (Instr.dflStoredBody 2 0xFFFD [1]).wellFormed = false ∧ (Instr.dflStoredBody 2 2 [1]).wellFormed = false ∧
    (Instr.dflStoredBody 2 0xFFFD [1, 2]).wellFormed = true :=
  by decide +kernel

/-- R107, R258. -/
theorem test_wf_refuses_dyn_header :
    (Instr.dflDynHeader 29 29 0 [1, 1, 1]).wellFormed = false ∧ (Instr.dflDynHeader 30 0 0 [1, 1, 1, 1]).wellFormed = false ∧
    (Instr.dflDynHeader 29 29 0 [1, 1, 1, 1]).wellFormed = true :=
  by decide +kernel

/-- R113, R288. -/
theorem test_wf_refuses_gzip_parts :
    (Instr.gzipHeader 0x1F 0x8B 8 4 0 0 0 none none none none).wellFormed = false ∧
    (Instr.gzipHeader 0x1F 0x8B 8 8 0 0 0 none (some [1, 0]) none none).wellFormed = false ∧
    (Instr.gzipHeader 0x1F 0x8B 8 16 0 0 0 none none none none).wellFormed = false ∧
    (Instr.gzipHeader 0x1F 0x8B 8 0 0 0 0 none none none (some 1)).wellFormed = false ∧
    (Instr.gzipHeader 0x1F 0x8B 7 4 0 0 0 (some []) none none none).wellFormed = false ∧
    (Instr.gzipHeader 0x1F 0x8B 8 8 0 0 0 none (some [1]) none none).wellFormed = true :=
  by decide +kernel

/-- R115, R322. -/
theorem test_wf_refuses_lz4_descriptor :
    (Instr.lz4Descriptor 0x60 none none none none).wellFormed = false ∧
    (Instr.lz4Descriptor 0x68 (some 0x40) none none (some 0)).wellFormed = false ∧
    (Instr.lz4Descriptor 0x61 (some 0x40) none none (some 0)).wellFormed = false ∧
    (Instr.lz4Descriptor 0x20 (some 0x40) none none none).wellFormed = false ∧
    (Instr.lz4Descriptor 0x60 (some 0x30) none none (some 0)).wellFormed = false ∧
    (Instr.lz4Descriptor 0x60 (some 0x40) none none (some 0x82)).wellFormed = true :=
  by decide +kernel

/-- R116. -/
theorem test_wf_refuses_lz4_blocks :
    (Instr.lz4BlockCompressed 0 [] none).wellFormed = false ∧
    (Instr.lz4BlockCompressed 2 [1] none).wellFormed = false ∧
    (Instr.lz4BlockStored 2 [1] none).wellFormed = false ∧
    (Instr.lz4BlockStored 1 [] (some 0)).wellFormed = false ∧
    (Instr.lz4BlockStored 1 [1] (some 0)).wellFormed = true :=
  by decide +kernel

/-- R117. -/
theorem test_wf_refuses_lz4_sequence :
    (Instr.lz4Sequence [1] none).wellFormed = false ∧ (Instr.lz4Sequence [1] (some (1, 0))).wellFormed = true :=
  by decide +kernel

/-- R120. -/
theorem test_wf_refuses_snp_preamble :
    (Instr.snpPreamble []).wellFormed = false ∧ (Instr.snpPreamble [0x80]).wellFormed = false ∧
    (Instr.snpPreamble [1, 2]).wellFormed = false ∧ (Instr.snpPreamble [0x80, 0]).wellFormed = true :=
  by decide +kernel

/-- R122. -/
theorem test_wf_refuses_snp_literal :
    (Instr.snpLiteral 0 [] [1, 2]).wellFormed = false ∧ (Instr.snpLiteral 60 [] [1]).wellFormed = false ∧
    (Instr.snpLiteral 2 [] [1, 2, 3]).wellFormed = true :=
  by decide +kernel

/-- R94, bit 0 first. -/
theorem test_decode_commands :
    decode .cmd [O, O, O, O] = .ok .nop [] ∧
    decode .cmd [I, O, O, O] = .ok .startCompress [] ∧
    decode .cmd [O, I, O, O] = .ok .startDecompress [] ∧
    decode .cmd [I, I, O, O] = .ok .cancel [] ∧
    decode .cmd [O, O, I, O] = .ok .softReset [] ∧
    decode .cmd [I, O, I, O] = .ok .cmdReserved5 [] ∧
    decode .cmd [O, I, I, O] = .ok (.cmdReserved6to7 0) [] ∧
    decode .cmd [I, I, I, O] = .ok (.cmdReserved6to7 1) [] ∧
    decode .cmd [O, O, O, I] = .ok (.cmdReserved8to15 0) [] ∧
    decode .cmd [I, I, I, I] = .ok (.cmdReserved8to15 7) [] :=
  by decide +kernel

/-- R95. -/
theorem test_decode_config_codec :
    decode (.cfg .codec) [O, O, O] = .ok .cfgCodecDeflate [] ∧
    decode (.cfg .codec) [I, O, O] = .ok .cfgCodecZlib [] ∧
    decode (.cfg .codec) [O, I, O] = .ok .cfgCodecGzip [] ∧
    decode (.cfg .codec) [I, I, O] = .ok .cfgCodecLz4 [] ∧
    decode (.cfg .codec) [O, O, I] = .ok .cfgCodecSnappy [] ∧
    decode (.cfg .codec) [I, O, I] = .ok .cfgCodecZstd [] ∧
    decode (.cfg .codec) [O, I, I] = .ok (.cfgCodecReserved 0) [] ∧
    decode (.cfg .codec) [I, I, I] = .ok (.cfgCodecReserved 1) [] :=
  by decide +kernel

/-- R95. -/
theorem test_decode_config_others :
    decode (.cfg .cksel) [O, O] = .ok .cfgCkselNone [] ∧
    decode (.cfg .cksel) [I, O] = .ok .cfgCkselCrc32 [] ∧
    decode (.cfg .cksel) [O, I] = .ok .cfgCkselAdler32 [] ∧
    decode (.cfg .cksel) [I, I] = .ok .cfgCkselReserved3 [] ∧
    decode (.cfg .treeMode) [O, O] = .ok .cfgTreeStored [] ∧
    decode (.cfg .treeMode) [I, O] = .ok .cfgTreeFixed [] ∧
    decode (.cfg .treeMode) [O, I] = .ok .cfgTreeDynamic [] ∧
    decode (.cfg .treeMode) [I, I] = .ok .cfgTreeReserved3 [] ∧
    decode (.cfg .isLazy) [O] = .ok .cfgLazy0 [] ∧
    decode (.cfg .isLazy) [I] = .ok .cfgLazy1 [] ∧
    decode (.cfg .iomode) [O] = .ok .cfgIomodeBuffer [] ∧
    decode (.cfg .iomode) [I] = .ok .cfgIomodeStream [] :=
  by decide +kernel

/-- R61; bit places log entry 9. -/
theorem test_decode_beats :
    decode .beat [I, O, O, O, O, I, I, O, O, O] = .ok (.beatData 0x61) [] ∧
    decode .beat [I, O, O, O, O, I, I, O, I, O] = .ok (.beatDataLast 0x61) [] ∧
    decode .beat [O, O, O, O, O, O, O, O, I, I] = .ok .beatEndEmpty [] ∧
    decode .beat [O, O, O, O, O, O, O, O, O, I] = .illegal :=
  by decide +kernel

/-- R92, V-LZ token words. -/
theorem test_decode_tokens :
    decode .token (natBits 40 0x0000000061) = .ok (.lit 0x61) [] ∧
    decode .token (natBits 40 0x4000010102) = .ok (.matchTok 1 258) [] ∧
    decode .token (natBits 40 0x40FFFF0004) = .ok (.matchTok 65535 4) [] ∧
    decode .token (natBits 40 0x4100000003) = .ok (.matchTok 65536 3) [] ∧
    decode .token (natBits 40 0x8000000000) = .ok .eob [] ∧
    decode .token (natBits 40 0xC000000005) = .ok (.tokenReserved 5) [] ∧
    decode .token (natBits 40 0x0000000100) = .illegal ∧
    decode .token (natBits 40 0x4200000003) = .illegal :=
  by decide +kernel

/-- R100. -/
theorem test_decode_deflate_headers :
    decode .dflHdr [I, O, O] = .ok (.dflBlockStored true) [] ∧
    decode .dflHdr [I, I, O] = .ok (.dflBlockFixed true) [] ∧
    decode .dflHdr [O, O, I] = .ok (.dflBlockDynamic false) [] ∧
    decode .dflHdr [I, I, I] = .ok (.dflBlockReserved true) [] :=
  by decide +kernel

/-- R101, R107, R258. -/
theorem test_decode_deflate_bodies :
    decode (.dflStored 0) (bitsOfBytes [3, 0, 0xFC, 0xFF, 0x61, 0x62, 0x63]) = .ok (.dflStoredBody 3 0xFFFC [0x61, 0x62, 0x63]) [] ∧
    decode (.dflStored 5) ([I, I, I, I, I] ++ bitsOfBytes [1, 0, 0xFF, 0xFF, 0xFF]) = .ok (.dflStoredBody 1 0xFFFF []) (bitsOfBytes [0xFF]) ∧
    decode .dflDyn [I, O, O, O, O, O, I, O, O, O, O, O, O, O, I, O, O, O, I, O, I, I, O, I, I, I, I] = .ok (.dflDynHeader 1 2 0 [1, 2, 3, 7]) [I] ∧
    decode .dflDyn [O, I, I, I, I, O, O, O, O, O, O, O, O, O, I] = .ok (.dflDynHeader 30 0 0 []) [I] :=
  by decide +kernel

/-- R106. -/
theorem test_decode_literals :
    decode (.llSym fixedTreeLL) [O, O, I, I, O, O, O, O, I] = .ok (.llLiteral 0) [I] ∧
    decode (.llSym fixedTreeLL) [I, O, O, I, O, O, O, I, I] = .ok (.llLiteral 97) [I] ∧
    decode (.llSym fixedTreeLL) [I, O, I, I, I, I, I, I, I] = .ok (.llLiteral 143) [I] ∧
    decode (.llSym fixedTreeLL) [I, I, O, O, I, O, O, O, O, I] = .ok (.llLiteral 144) [I] ∧
    decode (.llSym fixedTreeLL) [I, I, I, I, I, I, I, I, I, I] = .ok (.llLiteral 255) [I] ∧
    decode (.llSym fixedTreeLL) [O, O, O, O, O, O, O] = .ok .llEob [] ∧
    decode (.llSym fixedTreeLL) [I, I, O, O, O, I, I, O] = .ok (.llIllegal 0) [] ∧
    decode (.llSym fixedTreeLL) [I, I, O, O, O, I, I, I] = .ok (.llIllegal 1) [] ∧
    decode (.llSym fixedTreeLL) [I, I, O, O, O, I] = .short :=
  by decide +kernel

/-- R104, R106. -/
theorem test_decode_lengths_257 :
    decode (.llSym fixedTreeLL) [O, O, O, O, O, O, I] = .ok .llLen257 [] ∧
    decode (.llSym fixedTreeLL) [O, O, O, O, O, I, O] = .ok .llLen258 [] ∧
    decode (.llSym fixedTreeLL) [O, O, O, O, O, I, I] = .ok .llLen259 [] ∧
    decode (.llSym fixedTreeLL) [O, O, O, O, I, O, O] = .ok .llLen260 [] ∧
    decode (.llSym fixedTreeLL) [O, O, O, O, I, O, I] = .ok .llLen261 [] ∧
    decode (.llSym fixedTreeLL) [O, O, O, O, I, I, O] = .ok .llLen262 [] ∧
    decode (.llSym fixedTreeLL) [O, O, O, O, I, I, I] = .ok .llLen263 [] ∧
    decode (.llSym fixedTreeLL) [O, O, O, I, O, O, O] = .ok .llLen264 [] ∧
    decode (.llSym fixedTreeLL) [O, O, O, I, O, O, I, I] = .ok (.llLen265 1) [] ∧
    decode (.llSym fixedTreeLL) [O, O, O, I, O, I, O, I] = .ok (.llLen266 1) [] :=
  by decide +kernel

/-- R104, R106. -/
theorem test_decode_lengths_267 :
    decode (.llSym fixedTreeLL) [O, O, O, I, O, I, I, I] = .ok (.llLen267 1) [] ∧
    decode (.llSym fixedTreeLL) [O, O, O, I, I, O, O, I] = .ok (.llLen268 1) [] ∧
    decode (.llSym fixedTreeLL) [O, O, O, I, I, O, I, I, O] = .ok (.llLen269 1) [] ∧
    decode (.llSym fixedTreeLL) [O, O, O, I, I, I, O, I, O] = .ok (.llLen270 1) [] ∧
    decode (.llSym fixedTreeLL) [O, O, O, I, I, I, I, I, O] = .ok (.llLen271 1) [] ∧
    decode (.llSym fixedTreeLL) [O, O, I, O, O, O, O, I, O] = .ok (.llLen272 1) [] ∧
    decode (.llSym fixedTreeLL) [O, O, I, O, O, O, I, I, O, O] = .ok (.llLen273 1) [] ∧
    decode (.llSym fixedTreeLL) [O, O, I, O, O, I, O, I, O, O] = .ok (.llLen274 1) [] ∧
    decode (.llSym fixedTreeLL) [O, O, I, O, O, I, I, I, O, O] = .ok (.llLen275 1) [] ∧
    decode (.llSym fixedTreeLL) [O, O, I, O, I, O, O, I, O, O] = .ok (.llLen276 1) [] :=
  by decide +kernel

/-- R104, R106. -/
theorem test_decode_lengths_277 :
    decode (.llSym fixedTreeLL) [O, O, I, O, I, O, I, I, O, O, O] = .ok (.llLen277 1) [] ∧
    decode (.llSym fixedTreeLL) [O, O, I, O, I, I, O, I, O, O, O] = .ok (.llLen278 1) [] ∧
    decode (.llSym fixedTreeLL) [O, O, I, O, I, I, I, I, O, O, O] = .ok (.llLen279 1) [] ∧
    decode (.llSym fixedTreeLL) [I, I, O, O, O, O, O, O, I, O, O, O] = .ok (.llLen280 1) [] ∧
    decode (.llSym fixedTreeLL) [I, I, O, O, O, O, O, I, I, O, O, O, O] = .ok (.llLen281 1) [] ∧
    decode (.llSym fixedTreeLL) [I, I, O, O, O, O, I, O, I, O, O, O, O] = .ok (.llLen282 1) [] ∧
    decode (.llSym fixedTreeLL) [I, I, O, O, O, O, I, I, I, O, O, O, O] = .ok (.llLen283 1) [] ∧
    decode (.llSym fixedTreeLL) [I, I, O, O, O, I, O, O, I, O, O, O, O] = .ok (.llLen284 1) [] ∧
    decode (.llSym fixedTreeLL) [I, I, O, O, O, I, O, I] = .ok .llLen285 [] :=
  by decide +kernel

/-- R105, R106. -/
theorem test_decode_distances_0 :
    decode (.dSym fixedTreeD) [O, O, O, O, O] = .ok .dDist0 [] ∧
    decode (.dSym fixedTreeD) [O, O, O, O, I] = .ok .dDist1 [] ∧
    decode (.dSym fixedTreeD) [O, O, O, I, O] = .ok .dDist2 [] ∧
    decode (.dSym fixedTreeD) [O, O, O, I, I] = .ok .dDist3 [] ∧
    decode (.dSym fixedTreeD) [O, O, I, O, O, I] = .ok (.dDist4 1) [] ∧
    decode (.dSym fixedTreeD) [O, O, I, O, I, I] = .ok (.dDist5 1) [] ∧
    decode (.dSym fixedTreeD) [O, O, I, I, O, I, I] = .ok (.dDist6 3) [] ∧
    decode (.dSym fixedTreeD) [O, O, I, I, I, I, I] = .ok (.dDist7 3) [] ∧
    decode (.dSym fixedTreeD) [O, I, O, O, O, I, O, I] = .ok (.dDist8 5) [] ∧
    decode (.dSym fixedTreeD) [O, I, O, O, I, I, O, I] = .ok (.dDist9 5) [] ∧
    decode (.dSym fixedTreeD) [O, I, O, I, O, I, O, O, I] = .ok (.dDist10 9) [] :=
  by decide +kernel

/-- R105, R106. -/
theorem test_decode_distances_11 :
    decode (.dSym fixedTreeD) [O, I, O, I, I, I, O, O, I] = .ok (.dDist11 9) [] ∧
    decode (.dSym fixedTreeD) [O, I, I, O, O, I, O, O, O, I] = .ok (.dDist12 17) [] ∧
    decode (.dSym fixedTreeD) [O, I, I, O, I, I, O, O, O, I] = .ok (.dDist13 17) [] ∧
    decode (.dSym fixedTreeD) [O, I, I, I, O, I, O, O, O, O, I] = .ok (.dDist14 33) [] ∧
    decode (.dSym fixedTreeD) [O, I, I, I, I, I, O, O, O, O, I] = .ok (.dDist15 33) [] ∧
    decode (.dSym fixedTreeD) [I, O, O, O, O, I, O, O, O, O, O, I] = .ok (.dDist16 65) [] ∧
    decode (.dSym fixedTreeD) [I, O, O, O, I, I, O, O, O, O, O, I] = .ok (.dDist17 65) [] ∧
    decode (.dSym fixedTreeD) [I, O, O, I, O, I, O, O, O, O, O, O, I] = .ok (.dDist18 129) [] ∧
    decode (.dSym fixedTreeD) [I, O, O, I, I, I, O, O, O, O, O, O, I] = .ok (.dDist19 129) [] ∧
    decode (.dSym fixedTreeD) [I, O, I, O, O, I, O, O, O, O, O, O, O, I] = .ok (.dDist20 257) [] ∧
    decode (.dSym fixedTreeD) [I, O, I, O, I, I, O, O, O, O, O, O, O, I] = .ok (.dDist21 257) [] :=
  by decide +kernel

/-- R105, R106. -/
theorem test_decode_distances_22 :
    decode (.dSym fixedTreeD) [I, O, I, I, O, I, O, O, O, O, O, O, O, O, I] = .ok (.dDist22 513) [] ∧
    decode (.dSym fixedTreeD) [I, O, I, I, I, I, O, O, O, O, O, O, O, O, I] = .ok (.dDist23 513) [] ∧
    decode (.dSym fixedTreeD) [I, I, O, O, O, I, O, O, O, O, O, O, O, O, O, I] = .ok (.dDist24 1025) [] ∧
    decode (.dSym fixedTreeD) [I, I, O, O, I, I, O, O, O, O, O, O, O, O, O, I] = .ok (.dDist25 1025) [] ∧
    decode (.dSym fixedTreeD) [I, I, O, I, O, I, O, O, O, O, O, O, O, O, O, O, I] = .ok (.dDist26 2049) [] ∧
    decode (.dSym fixedTreeD) [I, I, O, I, I, I, O, O, O, O, O, O, O, O, O, O, I] = .ok (.dDist27 2049) [] ∧
    decode (.dSym fixedTreeD) [I, I, I, O, O, I, O, O, O, O, O, O, O, O, O, O, O, I] = .ok (.dDist28 4097) [] ∧
    decode (.dSym fixedTreeD) [I, I, I, O, I, I, O, O, O, O, O, O, O, O, O, O, O, I] = .ok (.dDist29 4097) [] ∧
    decode (.dSym fixedTreeD) [I, I, I, I, O] = .ok (.dIllegal 0) [] ∧
    decode (.dSym fixedTreeD) [I, I, I, I, I] = .ok (.dIllegal 1) [] :=
  by decide +kernel

/-- R108; codes by R208 from thirteen lengths 4 and six lengths 5. -/
theorem test_decode_code_lengths_0 :
    decode (.clSym clTree false) [O, O, O, O] = .ok .clLen0 [] ∧
    decode (.clSym clTree false) [O, O, O, I] = .ok .clLen1 [] ∧
    decode (.clSym clTree false) [O, O, I, O] = .ok .clLen2 [] ∧
    decode (.clSym clTree false) [O, O, I, I] = .ok .clLen3 [] ∧
    decode (.clSym clTree false) [O, I, O, O] = .ok .clLen4 [] ∧
    decode (.clSym clTree false) [O, I, O, I] = .ok .clLen5 [] ∧
    decode (.clSym clTree false) [O, I, I, O] = .ok .clLen6 [] ∧
    decode (.clSym clTree false) [O, I, I, I] = .ok .clLen7 [] ∧
    decode (.clSym clTree false) [I, O, O, O] = .ok .clLen8 [] ∧
    decode (.clSym clTree false) [I, O, O, I] = .ok .clLen9 [] :=
  by decide +kernel

/-- R108, R208. -/
theorem test_decode_code_lengths_10 :
    decode (.clSym clTree false) [I, O, I, O] = .ok .clLen10 [] ∧
    decode (.clSym clTree false) [I, O, I, I] = .ok .clLen11 [] ∧
    decode (.clSym clTree false) [I, I, O, O] = .ok .clLen12 [] ∧
    decode (.clSym clTree false) [I, I, O, I, O] = .ok .clLen13 [] ∧
    decode (.clSym clTree false) [I, I, O, I, I] = .ok .clLen14 [] ∧
    decode (.clSym clTree false) [I, I, I, O, O] = .ok .clLen15 [] ∧
    decode (.clSym clTree false) [I, I, I, O, I, O, I] = .ok (.clRepPrev 2) [] ∧
    decode (.clSym clTree false) [I, I, I, I, O, O, O, I] = .ok (.clRepZeroShort 4) [] ∧
    decode (.clSym clTree false) [I, I, I, I, I, O, O, O, O, O, O, I] = .ok (.clRepZeroLong 64) [] :=
  by decide +kernel

/-- V-HUF. -/
theorem test_decode_no_code :
    decode (.clSym (treeOf [1, 0, 0]) true) [I] = .bad .hufNoCode ∧ decode (.clSym (treeOf [1, 0, 0]) true) [O] = .ok .clLen0 [] ∧
    decode (.dSym (treeOf [2, 2, 1])) [I, O] = .ok .dDist0 [] :=
  by decide +kernel

/-- R260, R268; the code of symbol 16 is 29 in 5 bits (R208). -/
theorem test_first_repeat_is_refused_before_its_extra_bits :
    decode (.clSym clTree true) [I, I, I, O, I] = .bad .dflBadRepeat ∧
    decode (.clSym clTree false) [I, I, I, O, I] = .short :=
  by decide +kernel

/-- R110, R111, S1. -/
theorem test_decode_zlib :
    decode .zlibHdr (bitsOfBytes [0x78, 0x9C]) = .ok (.zlibHeader 0x78 0x9C) [] ∧
    decode .zlibTrl (bitsOfBytes [0x87, 0xC1, 0xEB, 0x98]) = .ok (.zlibTrailer 0x87C1EB98) [] ∧
    decode .zlibHdr (bitsOfBytes [0x78]) = .short :=
  by decide +kernel

/-- R112 to R114, V-ZG. -/
theorem test_decode_gzip :
    decode .gzipHdr (bitsOfBytes [0x1F, 0x8B, 8, 0, 1, 2, 3, 4, 5, 255]) = .ok (.gzipHeader 0x1F 0x8B 8 0 0x04030201 5 255 none none none none) [] ∧
    decode .gzipHdr (bitsOfBytes [0x1F, 0x8B, 8, 0x1E, 0, 0, 0, 0, 0, 255, 2, 0, 0xAA, 0xBB, 0x78, 0, 0x63, 0, 0x16, 0x40]) = .ok (.gzipHeader 0x1F 0x8B 8 0x1E 0 0 255 (some [0xAA, 0xBB]) (some [0x78]) (some [0x63]) (some 0x4016)) [] ∧
    decode (.gzipTrl 0xE8B7BE43) (bitsOfBytes [0x43, 0xBE, 0xB7, 0xE8, 1, 0, 0, 0]) = .ok (.gzipTrailer 0xE8B7BE43 (some 1)) [] ∧
    decode (.gzipTrl 0xE8B7BE43) (bitsOfBytes [0x42, 0xBE, 0xB7, 0xE8]) = .ok (.gzipTrailer 0xE8B7BE42 none) [] :=
  by decide +kernel

/-- R115, V-LZ4. -/
theorem test_decode_lz4_frame :
    decode .lz4Magic (bitsOfBytes [4, 0x22, 0x4D, 0x18]) = .ok .lz4Magic [] ∧
    decode .lz4Magic (bitsOfBytes [0x5F, 0x2A, 0x4D, 0x18]) = .ok (.lz4MagicSkippable 15) [] ∧
    decode .lz4Magic (bitsOfBytes [4, 0x22, 0x4D, 0x19]) = .bad .lz4BadMagic ∧
    decode .lz4Desc (bitsOfBytes [0x60, 0x40, 0x82]) = .ok (.lz4Descriptor 0x60 (some 0x40) none none (some 0x82)) [] ∧
    decode .lz4Desc (bitsOfBytes [0x69, 0x40, 1, 0, 0, 0, 0, 0, 0, 2, 3, 0, 0, 0, 9]) = .ok (.lz4Descriptor 0x69 (some 0x40) (some 0x0200000000000001) (some 3) (some 9)) [] :=
  by decide +kernel

/-- R116, V-LZ4. -/
theorem test_decode_lz4_blocks :
    decode (.lz4Blk 65536 false) (bitsOfBytes [1, 0, 0, 0x80, 0x61]) = .ok (.lz4BlockStored 1 [0x61] none) [] ∧
    decode (.lz4Blk 65536 true) (bitsOfBytes [2, 0, 0, 0, 0x10, 0x61, 1, 2, 3, 4]) = .ok (.lz4BlockCompressed 2 [0x10, 0x61] (some 0x04030201)) [] ∧
    decode (.lz4Blk 65536 false) (bitsOfBytes [0, 0, 0, 0]) = .ok .lz4Endmark [] ∧
    decode .lz4Content (bitsOfBytes [0x56, 0x74, 0x0D, 0x55]) = .ok (.lz4ContentChecksum 0x550D7456) [] ∧
    decode (.lz4Blk 65536 false) (bitsOfBytes [1, 0, 1, 0]) = .ok (.lz4BlockCompressed 65537 [] none) [] :=
  by decide +kernel

/-- R117, R118, V-LZ4. -/
theorem test_decode_lz4_sequences :
    decode .lz4Seq (bitsOfBytes [0x13, 0x41, 1, 0, 0x50]) = .ok (.lz4Sequence [0x41] (some (1, 3))) (bitsOfBytes [0x50]) ∧
    decode .lz4Seq (bitsOfBytes [0x1F, 0x41, 1, 0, 0x4B]) = .ok (.lz4Sequence [0x41] (some (1, 90))) [] ∧
    decode .lz4Seq (bitsOfBytes [0x30, 0x41, 0x42, 0x43]) = .ok (.lz4LastSequence [0x41, 0x42, 0x43]) [] ∧
    decode .lz4Seq (bitsOfBytes [0x50, 0x41]) = .bad .lz4BadSeq :=
  by decide +kernel

/-- R120 to R122, V-SNP. -/
theorem test_decode_snappy :
    decode .snpPre (bitsOfBytes [0xAC, 2]) = .ok (.snpPreamble [0xAC, 2]) [] ∧
    decode (.snpTag 64) (bitsOfBytes [8, 0x61, 0x62, 0x63]) = .ok (.snpLiteral 2 [] [0x61, 0x62, 0x63]) [] ∧
    decode (.snpTag 64) (bitsOfBytes [0xF0, 1, 0x61, 0x62]) = .ok (.snpLiteral 60 [1] [0x61, 0x62]) [] ∧
    decode (.snpTag 64) (bitsOfBytes [0x11, 0x10]) = .ok (.snpCopy1 4 16) [] ∧
    decode (.snpTag 64) (bitsOfBytes [0x46, 3, 0]) = .ok (.snpCopy2 17 3) [] ∧
    decode (.snpTag 64) (bitsOfBytes [0x0F, 4, 0, 0, 0]) = .ok (.snpCopy4 3 4) [] :=
  by decide +kernel

/-- spec/opcode_table.json. -/
theorem test_table_words :
    decodeTableWord 8 0x1 = some .startCompress ∧
    decodeTableWord 8 0x30 = some .cfgCkselReserved3 ∧
    decodeTableWord 16 0x300 = some .cfgTreeReserved3 ∧
    decodeTableWord 16 0x1000 = some .cfgLazy1 ∧
    decodeTableWord 16 0x2000 = some .cfgIomodeStream ∧
    decodeTableWord 16 0x0800 = some (.zlibHeader 8 0) ∧
    decodeTableWord 32 0x184D2204 = some .lz4Magic ∧
    decodeTableWord 32 0x184D2A50 = some (.lz4MagicSkippable 0) ∧
    decodeTableWord 32 0 = some .lz4Endmark ∧
    decodeTableWord 40 0x4000000000 = some (.matchTok 0 0) ∧
    decodeTableWord 40 0xC000000000 = some (.tokenReserved 0) :=
  by decide +kernel

/-- R386. -/
theorem test_fetched_start :
    step (State.reset.withFetchWord 8 1) = .next (startSession .compress State.reset) :=
  by rfl

/-- log entry 8. -/
theorem test_fetched_words :
    (match step (State.reset.withFetchWord 16 0x2000) with | .next s => s.regs.cfg | _ => 0) = 0x2200 ∧
    (match step (State.reset.withFetchWord 40 0x61) with | .next s => (s.engines.getD 0 Engine.reset).tokRd | _ => 0) = 1 ∧
    (match step (State.reset.withFetchWord 32 0x184D2204) with | .next s => (s.want, s.unp.cur) | _ => (.nothing, 0)) = (.lz4Desc, 4) ∧
    (match step (State.reset.withFetchWord 16 0x7801) with | .next s => (s.phase, s.want) | _ => (.idle, .nothing)) = (.body, .dflHdr) ∧
    (match step (State.reset.withFetchWord 40 0xC000000000) with | .refused r => r == .reservedToken | _ => false) = true :=
  by decide +kernel

/-- R154, R155. -/
theorem test_crc_examples :
    crc32 [] = 0 ∧
    crc32 [0x61] = 0xE8B7BE43 ∧
    crc32 [0x61, 0x62, 0x63] = 0x352441C2 ∧
    crc32 [0xFF] = 0xFF000000 ∧
    crc32 [0x31, 0x32, 0x33, 0x34, 0x35, 0x36, 0x37, 0x38, 0x39] = 0xCBF43926 ∧
    crcComb 0x352441C2 0x0CC4E161 3 = 0x4B8E39EF :=
  by decide +kernel

/-- R160, R161. -/
theorem test_adler_examples :
    adler32 [] = 1 ∧
    adler32 [0x61, 0x62, 0x63] = 0x024D0127 ∧
    adler32 [0xFF] = 0x01000100 ∧
    adler32 [0x57, 0x69, 0x6B, 0x69, 0x70, 0x65, 0x64, 0x69, 0x61] = 0x11E60398 ∧
    adlerComb 0x024D0127 0x025F0130 3 = 0x081E0256 :=
  by decide +kernel

/-- G14, V-CK. -/
theorem test_xxh_examples :
    xxh32Intended [] = 0x02CC5D05 ∧
    xxh32Intended [0x61] = 0x550D7456 ∧
    xxh32Intended [0x61, 0x62, 0x63] = 0x32D153FF ∧
    xxh32Intended (List.replicate 16 0x41) = xxh32 .intended (List.replicate 16 0x41) ∧
    (xxh32Intended [0x68, 0x40, 1, 0, 0, 0, 0, 0, 0, 0]).toNat / 256 % 256 = 0x2C :=
  by decide +kernel

/-- R106, R211. -/
theorem test_fixed_trees :
    assignCodes fixedLenLL = fixedCodesLL ∧ assignCodes fixedLenD = fixedCodesD ∧
    kraft 15 fixedLenLL = 2 ^ 15 ∧ kraft 15 fixedLenD = 2 ^ 15 :=
  by decide +kernel

/-- V-HUF. -/
theorem test_build_examples :
    buildLengths [5, 9, 12, 13, 16, 45] 15 = [4, 4, 3, 3, 3, 1] ∧
    buildLengths [1, 1, 1] 15 = [2, 2, 1] ∧
    buildLengths [1, 1, 1, 1, 1] 15 = [3, 3, 2, 2, 2] ∧
    buildLengths [0, 0, 0, 0, 0, 7] 15 = [1, 0, 0, 0, 0, 1] ∧
    assignCodes [4, 4, 3, 3, 3, 1] = [14, 15, 4, 5, 6, 0] :=
  by decide +kernel

/-- V-HUF. -/
theorem test_build_limited :
    buildLengths [1, 1, 2, 3, 5, 8, 13, 21, 34, 55, 89, 144, 233, 377, 610, 987, 1597, 2584, 4181] 7 =
    List.replicate 16 7 ++ [3, 2, 1] :=
  by decide +kernel

/-- R173. -/
theorem test_find_example :
    lzFind { minMatch := 3, maxMatch := 258, maxOffset := 1024, lz4 := false } [97, 98, 99, 81, 97, 98, 99, 82, 97, 98, 99] 8 = { off := 4, len := 3 } :=
  by decide +kernel

/-- V-LZ. -/
theorem test_block_examples :
    lzBlock false { minMatch := 3, maxMatch := 258, maxOffset := 1024, lz4 := false } [97, 97, 97, 97] = [.lit 97, .mat 1 3] ∧
    lzBlock true { minMatch := 3, maxMatch := 258, maxOffset := 1024, lz4 := false } [97, 98, 99, 88, 98, 99, 100, 101, 89, 97, 98, 99, 100, 101] =
      [.lit 97, .lit 98, .lit 99, .lit 88, .lit 98, .lit 99, .lit 100, .lit 101, .lit 89, .lit 97, .mat 6 4] ∧
    lzBlock false { minMatch := 4, maxMatch := 65535, maxOffset := 1024, lz4 := true } (List.replicate 13 65) =
      [.lit 65, .mat 1 7, .lit 65, .lit 65, .lit 65, .lit 65, .lit 65] :=
  by decide +kernel

/-- R281, V-ZG. -/
theorem test_zlib_headers :
    zlibWrite 1 = [0x28, 0x91] ∧ zlibWrite 16 = [0x68, 0x81] ∧ zlibWrite 32 = [0x78, 0x9C] :=
  by decide +kernel

/-- R317, V-LZ4. -/
theorem test_lz4_headers :
    lz4Write .intended 1 = [4, 0x22, 0x4D, 0x18, 0x60, 0x40, 0x82] ∧ lz4Write .intended 4096 = [4, 0x22, 0x4D, 0x18, 0x60, 0x70, 0x73] :=
  by decide +kernel

/-- V-SNP, V-LZ4. -/
theorem test_snappy_writes :
    varint 300 = [0xAC, 2] ∧
    snpCopyBytes 3 18 = [0x46, 3, 0] ∧
    snpCopyBytes 16 8 = [0x11, 0x10] ∧
    snpLiteralBytes [0x61] = [0, 0x61] ∧
    (snpLiteralBytes (List.replicate 61 7)).take 2 = [0xF0, 60] ∧
    lz4SeqBytes [0x41] (some (1, 90)) = [0x1F, 0x41, 1, 0, 0x4B] :=
  by decide +kernel

/-- R384, V-CFG. -/
theorem test_config_failures :
    cfgCheck base.params { cfg := 6, blockKib := 32, windowKib := 32, engines := 1 } = some .cfgCodec ∧
    cfgCheck base.params { cfg := 0x30, blockKib := 32, windowKib := 32, engines := 1 } = some .cfgCksel ∧
    cfgCheck base.params { cfg := 0x300, blockKib := 32, windowKib := 32, engines := 1 } = some .cfgTree ∧
    cfgCheck base.params { cfg := 5, blockKib := 0, windowKib := 32, engines := 1 } = some .cfgBlock ∧
    cfgCheck base.params { cfg := 0, blockKib := 4097, windowKib := 32, engines := 1 } = some .cfgBlock ∧
    cfgCheck base.params { cfg := 0, blockKib := 4096, windowKib := 32, engines := 0 } = some .cfgEngines ∧
    cfgCheck base.params { cfg := 0, blockKib := 1, windowKib := 32, engines := 3 } = some .cfgEngines ∧
    cfgCheck base.params { cfg := 0, blockKib := 1, windowKib := 64, engines := 2 } = some .cfgWindow ∧
    cfgCheck base.params { cfg := 3, blockKib := 1, windowKib := 3, engines := 2 } = some .cfgWindow ∧
    cfgCheck base.params { cfg := 5, blockKib := 1, windowKib := 3, engines := 2 } = some .zstdCodec ∧
    cfgCheck base.params { cfg := 4, blockKib := 4096, windowKib := 64, engines := 2 } = none :=
  by decide +kernel

/-- P4. -/
theorem test_status_of_failed_session :
    (match exec .startCompress { base with regs := { base.regs with cfg := 0x236 } } with
    | .next s => statusWord s | _ => 0) = 0x00050604 :=
  by decide +kernel

/-- R384, V-CFG. -/
theorem test_zstd_is_rejected :
    (match exec .startDecompress { base with regs := { base.regs with cfg := 5 } } with
    | .next s => (s.errcode, s.regs.errinfo) | _ => (0, 0)) = (4, 0x60) :=
  by decide +kernel

/-- R30. -/
theorem test_cfg_write_keeps_reserved_zero :
    (match exec (.cfgCodecReserved 0) base with | .next s => s.regs.cfg | _ => 0) = 0x206 ∧
    (match exec .cfgIomodeStream base with | .next s => s.regs.cfg | _ => 0) = 0x2200 :=
  by decide +kernel

/-- R181. -/
theorem test_copy_example :
    (match exec (.snpCopy1 2 1) { dec2 with unp := { dec2.unp with declared := 7, produced := 1, outwin := [(0, 65)] } } with
    | .next s => (s.stage, s.unp.produced) | _ => ([], 0)) = (List.replicate 6 65, 7) :=
  by decide +kernel

/-- V-DFL. -/
theorem test_deflate_one_byte :
    (match dflFixed [0x61] with | some g => g.result.bytes | none => []) = [0x4B, 0x04, 0x00] :=
  by decide +kernel

/-- R116: one stored block of two bytes, the end mark, then bytes that are no block (R39). -/
theorem test_frame_blocks :
    lz4FrameBlocks ([4, 0x22, 0x4D, 0x18, 0x60, 0x40, 0x82, 2, 0, 0, 0x80, 7, 8, 0, 0, 0, 0] ++ List.replicate 40 9) = 1 :=
  by decide +kernel

/-- R315, R355. -/
theorem test_litrun_stays_at_eob :
    (lz4Eob (engine4 .pack true)).map (·.litrun) = some 2 ∧ (snpEob (engine4 .pack true)).map (·.litrun) = some 2 :=
  by decide +kernel

/-- R328, R398, R22, R47. -/
theorem test_stored_lz4_block_fills_its_window :
    (engineStart (run .decompress .body 3) { engine4 .start true with blkStored := true }).map
      (fun g => (g.unp.produced, g.unp.outwin, g.result.bytes)) = some (4, [(0, 1), (1, 2), (2, 3), (3, 4)], [1, 2, 3, 4]) :=
  by decide +kernel

theorem witness_OwnFormatsRoundTrip :
    Ctx.cmd.fits (.cmdReserved8to15 7) = true ∧
    (Ctx.cfg .codec).fits (.cfgCodecReserved 1) = true ∧
    Ctx.beat.fits (.beatDataLast 255) = true ∧
    Ctx.token.fits (.matchTok 65536 258) = true ∧
    Ctx.dflHdr.fits (.dflBlockReserved true) = true :=
  by decide +kernel

theorem witness_FramesRoundTrip :
    (Instr.dflStoredBody 1 0xFFFE [7]).wellFormed = true ∧ (Ctx.dflStored 3).fits (.dflStoredBody 1 0xFFFE [7]) = true ∧
    (Instr.dflDynHeader 29 29 15 (List.replicate 19 7)).wellFormed = true ∧ (Ctx.dflDyn).fits (.dflDynHeader 29 29 15 (List.replicate 19 7)) = true ∧
    (Instr.zlibHeader 255 255).wellFormed = true ∧ (Ctx.zlibHdr).fits (.zlibHeader 255 255) = true ∧
    (Instr.zlibTrailer 0xFFFFFFFF).wellFormed = true ∧ (Ctx.zlibTrl).fits (.zlibTrailer 0xFFFFFFFF) = true ∧
    (Instr.gzipHeader 0x1F 0x8B 8 0x1F 1 2 3 (some [1]) (some []) (some [2]) (some 0xFFFF)).wellFormed = true ∧ (Ctx.gzipHdr).fits (.gzipHeader 0x1F 0x8B 8 0x1F 1 2 3 (some [1]) (some []) (some [2]) (some 0xFFFF)) = true ∧
    (Instr.gzipTrailer 5 (some 6)).wellFormed = true ∧ (Ctx.gzipTrl 5).fits (.gzipTrailer 5 (some 6)) = true ∧
    (Instr.lz4MagicSkippable 15).wellFormed = true ∧ (Ctx.lz4Magic).fits (.lz4MagicSkippable 15) = true ∧
    (Instr.lz4Descriptor 0x69 (some 0x70) (some 5) (some 6) (some 7)).wellFormed = true ∧ (Ctx.lz4Desc).fits (.lz4Descriptor 0x69 (some 0x70) (some 5) (some 6) (some 7)) = true ∧
    (Instr.lz4BlockCompressed 2 [1, 2] (some 3)).wellFormed = true ∧ (Ctx.lz4Blk 2 true).fits (.lz4BlockCompressed 2 [1, 2] (some 3)) = true ∧
    (Instr.lz4ContentChecksum 9).wellFormed = true ∧ (Ctx.lz4Content).fits (.lz4ContentChecksum 9) = true ∧
    (bitsOfBytes [1]).length % 8 = 0 ∧ ([true] : List Bool).length % 8 ≠ 0 :=
  by decide +kernel

theorem witness_ByteElementsRoundTrip :
    (Instr.snpPreamble [0x80, 0x80, 0x80, 0x80, 0x0F]).wellFormed = true ∧ Ctx.snpPre.fits (.snpPreamble [0x80, 0x80, 0x80, 0x80, 0x0F]) = true ∧
    (Instr.snpLiteral 60 [0] [7]).wellFormed = true ∧ (Ctx.snpTag 1).fits (.snpLiteral 60 [0] [7]) = true ∧
    (Ctx.snpTag 0).fits (.snpCopy4 63 0xFFFFFFFF) = true :=
  by decide +kernel

theorem witness_SymbolsRoundTrip :
    (TreeOk (endTree 286) ∧ (endTree 286).lens.length = 288 ∧ (Ctx.llSym (endTree 286)).fits (.llIllegal 1) = true) ∧
    (TreeOk (endTree 30) ∧ (endTree 30).lens.length = 32 ∧ (Ctx.dSym (endTree 30)).fits (.dIllegal 1) = true) ∧
    (TreeOk (endTree 17) ∧ (endTree 17).lens.length = 19 ∧ (Ctx.clSym (endTree 17) false).fits (.clRepZeroLong 127) = true) :=
  ⟨⟨endTree_ok 286, by decide +kernel, by decide +kernel⟩, ⟨endTree_ok 30, by decide +kernel, by decide +kernel⟩,
    ⟨endTree_ok 17, by decide +kernel, by decide +kernel⟩⟩

theorem witness_CanonicalCodesArePrefixFree :
    (∀ n ∈ [1, 2, 15, 15, 0], n ≤ 15) ∧ overSubscribed 15 [1, 2, 15, 15, 0] = false ∧
    (∀ n ∈ [1, 2, 2], n ≤ 2) ∧ overSubscribed 2 [1, 2, 2] = false :=
  by decide +kernel

theorem witness_BuiltTreesAreComplete :
    2 ≤ [0, 3].length ∧ [0, 3].length ≤ 2 ^ 1 ∧ 0 < [0, 3].getD 1 0 ∧
    buildLengths [0, 3] 1 = [1, 1] :=
  by decide +kernel

theorem witness_RunLengthsExpandBack :
    (∀ n ∈ [0, 0, 0, 15, 15, 15, 15], n ≤ 15) ∧ (clRle [0, 0, 0, 15, 15, 15, 15]).length = 3 :=
  by decide +kernel

theorem witness_LengthAndDistanceSymbols :
    lenSym 3 = { sym := 257, extra := 0, bits := 0 } ∧ lenSym 258 = { sym := 285, extra := 0, bits := 0 } ∧
    lenSym 257 = { sym := 284, extra := 30, bits := 5 } ∧ distSym 1 = { sym := 0, extra := 0, bits := 0 } ∧
    distSym 32768 = { sym := 29, extra := 8191, bits := 13 } :=
  by decide +kernel

theorem witness_FindIsTheBestMatch :
    1 ≤ abLimits.minMatch ∧ 2 < [1, 1, 1].length ∧ (lzFind abLimits [1, 1, 1] 0).len = 0 ∧
    (lzFind abLimits [1, 1, 1] 2).len ≠ 0 ∧ ValidMatch abLimits [1, 1, 1] 2 1 1 :=
  ⟨by decide, by decide, by decide, by decide, by decide, by decide, by decide, by decide,
    fun k hk => by have : k = 0 := by omega
                   subst this; decide⟩

theorem witness_TokensExpandToTheBlock :
    1 ≤ abLimits.minMatch ∧ lzBlock false abLimits [1, 1, 1] = [.lit 1, .mat 1 2] :=
  by decide +kernel

theorem witness_CopyReadsItsOwnOutput :
    (WindowFilled dec2.unp ∧ 1 ≤ 1 ∧ 1 ≤ dec2.unp.produced.toNat ∧ dec2.unp.produced.toNat + 9 < 2 ^ 64) ∧
    2 ≤ dec2.unp.produced.toNat :=
  ⟨⟨dec2_filled, by decide, by decide, by decide⟩, by decide⟩

theorem witness_StartIsIgnoredWhileBusy :
    busy dec2 = true ∧ busy base = false :=
  by decide +kernel

theorem witness_StartInitialisesTheSession :
    busy base = false ∧ cfgCheck base.params (sampleCfg base.regs) = none :=
  by decide +kernel

theorem witness_ConfigCheckFailsInOrder :
    busy base = false ∧ busy { base with phase := .failed, regs := { base.regs with cfg := 6 } } = false :=
  by decide +kernel

theorem witness_CommandsThatStartNothing :
    busy base = false ∧ busy dec2 = true :=
  by decide +kernel

theorem witness_CancelEndsTheSession :
    (let s := { run .compress .header 1 with cancelReq := true, agenda := [.agent .collector] }
     busy s = true ∧ s.cancelReq = true ∧ hasUnits s = true ∧ s.agenda = .agent .collector :: []) ∧
    (let s := { run .decompress .trailer 1 with cancelReq := true, agenda := [.agent .sequencer] }
     busy s = true ∧ s.cancelReq = true ∧ hasUnits s = false ∧ s.agenda = .agent .sequencer :: []) :=
  by decide +kernel

theorem witness_ConfigFieldsHoldTheirValue :
    7 < 2 ^ CfgField.codec.width ∧ 3 < 2 ^ CfgField.cksel.width ∧ 3 < 2 ^ CfgField.treeMode.width ∧
    1 < 2 ^ CfgField.isLazy.width ∧ 1 < 2 ^ CfgField.iomode.width :=
  by decide +kernel

theorem witness_BeatsOfADecompression :
    0 < { base with discard := 1 }.discard ∧
    (base.discard = 0 ∧ busy base = false) ∧
    (dec2.discard = 0 ∧ { dec2 with inEnded := true }.inEnded = true) ∧
    (dec2.discard = 0 ∧ busy dec2 = true ∧ dec2.inEnded = false ∧ dec2.dir = .decompress) :=
  by decide +kernel

theorem witness_CompressionCutsBlocks :
    ((run .compress .body 4).asm = [] ∧ (run .compress .body 4).nextCut = 0) ∧
    ({ run .compress .body 3 with asm := [7] }.asm ≠ []) ∧
    (let s := { run .compress .body 3 with nextCut := 0xFFFFFFFE, asm := List.replicate 1023 7 }
     s.discard = 0 ∧ busy s = true ∧ s.inEnded = false ∧ s.dir = .compress ∧ s.nextCut ≠ 0xFFFFFFFF ∧
     s.scfg.blockKib.toNat * 1024 ≤ s.asm.length + 1) ∧
    (let s := { run .compress .body 0 with asm := List.replicate 1022 7 }
     s.discard = 0 ∧ busy s = true ∧ s.nextCut ≠ 0xFFFFFFFF ∧ ¬ s.scfg.blockKib.toNat * 1024 ≤ s.asm.length + 1) ∧
    ((run .compress .body 0).asm = [] ∧ codec (run .compress .body 0) = .deflate ∧ codec (run .compress .body 3) = .lz4) :=
  by decide +kernel

theorem witness_CompressionCutsBlocks_full :
    (let s := { run .compress .body 0 with nextCut := 0xFFFFFFFF, asm := List.replicate 1023 7 }
     s.discard = 0 ∧ busy s = true ∧ s.inEnded = false ∧ s.dir = .compress ∧ s.nextCut = 0xFFFFFFFF ∧
     s.scfg.blockKib.toNat * 1024 ≤ s.asm.length + 1) ∧
    (let s := { run .compress .body 3 with nextCut := 0xFFFFFFFF, asm := [7] }
     s.nextCut = 0xFFFFFFFF ∧ ¬ s.scfg.blockKib.toNat * 1024 ≤ s.asm.length + 1) ∧
    (let s := { dec2 with unp := { dec2.unp with blkmax := 4 }, nextCut := 0xFFFFFFFF }
     (4#31).toNat ≤ s.unp.blkmax.toNat ∧ s.lz4flg.getLsbD 4 = false ∧ s.nextCut = 0xFFFFFFFF) :=
  by decide +kernel

theorem witness_TokensDecodeIntoTheWindow :
    dec2.dir = .decompress ∧ codec dec2 ≠ .lz4 ∧ WindowFilled dec2.unp ∧ 1 ≤ (1#17).toNat ∧
    (2#17).toNat ≤ dec2.unp.produced.toNat ∧ dec2.unp.produced.toNat + (258#16).toNat < 2 ^ 64 :=
  ⟨rfl, by decide, dec2_filled, by decide, by decide, by decide⟩

theorem witness_TokensDecodeIntoTheWindow_lz4 :
    let s : State := { packing 3 .unpack true with dir := .decompress }
    s.dir = .decompress ∧ codec s = .lz4 ∧ s.engines[s.actor]? = some (engine4 .unpack true) ∧ WindowFilled (engine4 .unpack true).unp ∧
     1 ≤ (1#17).toNat ∧ (1#17).toNat ≤ (engine4 .unpack true).unp.produced.toNat ∧
     (engine4 .unpack true).unp.produced.toNat + (9#16).toNat < 2 ^ 64 :=
  ⟨rfl, by decide, rfl, engine4_window _ _, by decide, by decide, by decide⟩

theorem witness_DeflatePackerWritesTokens :
    (let s := packing 0x101 .pack false
     s.dir = .compress ∧ (codec s).isDeflate = true ∧ s.engines[s.actor]? = some (engine4 .pack false) ∧ (engine4 .pack false).job = .pack ∧
     (1024#17).toNat ≤ windowBytes s ∧ 1 ≤ (1#17).toNat ∧ 3 ≤ (3#16).toNat ∧ (258#16).toNat ≤ 258) :=
  by decide +kernel

theorem witness_DeflateBlockEndIsAligned :
    ((packing 0 .pack true).engines[(packing 0 .pack true).actor]? = some (engine4 .pack true) ∧ (engine4 .pack true).job = .pack ∧
      (codec (packing 0 .pack true)).isDeflate = true ∧ (packing 0 .pack true).dir = .compress ∧ (engine4 .pack true).unit.isFinal = true) ∧
    ((packing 2 .pack false).engines[(packing 2 .pack false).actor]? = some (engine4 .pack false) ∧
      (codec (packing 2 .pack false)).isDeflate = true ∧ (engine4 .pack false).unit.isFinal = false) :=
  by decide +kernel

theorem witness_TokenStatistics :
    (let s := packing 0x200 .count true
     s.dir = .compress ∧ (codec s).isDeflate = true ∧ s.engines[s.actor]? = some (engine4 .count true) ∧ (engine4 .count true).job = .count ∧
     (engine4 .count true).freqLL.length = 286 ∧ (engine4 .count true).freqD.length = 30 ∧ (1024#17).toNat ≤ windowBytes s ∧ (1024#17).toNat ≤ 32768) :=
  by decide +kernel

theorem witness_BytePackersWriteElements_lz4 :
    let s := packing 3 .pack true
    s.dir = .compress ∧ codec s = .lz4 ∧ s.engines[s.actor]? = some (engine4 .pack true) ∧ BlockFilled (engine4 .pack true) ∧
     Memory.wf (engine4 .pack true).blkbuf = true ∧ (engine4 .pack true).litrun.toNat ≤ (engine4 .pack true).cov.toNat ∧
     (engine4 .pack true).cov.toNat ≤ (engine4 .pack true).blklen.toNat ∧
     matchInRange (matchLimits s) 1 4 = true ∧ matchInRange (matchLimits s) 1024 64 = true :=
  ⟨rfl, by decide, rfl, engine4_filled _ _, by decide, by decide, by decide, by decide, by decide⟩

theorem witness_BytePackersWriteElements_snappy :
    let s := packing 4 .pack true
    s.dir = .compress ∧ codec s = .snappy ∧ s.engines[s.actor]? = some (engine4 .pack true) ∧ BlockFilled (engine4 .pack true) ∧
     Memory.wf (engine4 .pack true).blkbuf = true ∧ (engine4 .pack true).litrun.toNat ≤ (engine4 .pack true).cov.toNat ∧
     (engine4 .pack true).cov.toNat ≤ (engine4 .pack true).blklen.toNat ∧
     matchInRange (matchLimits s) 1 4 = true ∧ matchInRange (matchLimits s) 1024 64 = true :=
  ⟨rfl, by decide, rfl, engine4_filled _ _, by decide, by decide, by decide, by decide, by decide⟩

theorem witness_ByteBlocksEnd_lz4 :
    let s := packing 3 .pack true
    s.dir = .compress ∧ codec s = .lz4 ∧ s.engines[s.actor]? = some (engine4 .pack true) ∧ BlockFilled (engine4 .pack true) ∧
     Memory.wf (engine4 .pack true).blkbuf = true ∧ (engine4 .pack true).litrun.toNat ≤ (engine4 .pack true).cov.toNat ∧
     (engine4 .pack true).cov.toNat ≤ (engine4 .pack true).blklen.toNat :=
  ⟨rfl, by decide, rfl, engine4_filled _ _, by decide, by decide, by decide⟩

theorem witness_ByteBlocksEnd_snappy :
    let s := packing 4 .pack true
    s.dir = .compress ∧ codec s = .snappy ∧ s.engines[s.actor]? = some (engine4 .pack true) ∧ BlockFilled (engine4 .pack true) ∧
     Memory.wf (engine4 .pack true).blkbuf = true ∧ (engine4 .pack true).litrun.toNat ≤ (engine4 .pack true).cov.toNat ∧
     (engine4 .pack true).cov.toNat ≤ (engine4 .pack true).blklen.toNat :=
  ⟨rfl, by decide, rfl, engine4_filled _ _, by decide, by decide, by decide⟩

theorem witness_FailureEntry :
    busy dec2 = true ∧ busy base = false :=
  by decide +kernel

theorem witness_IllegalElementsStopOrFail :
    busy dec2 = true ∧ dec2.nextCollect = dec2.nextCut :=
  by decide +kernel

theorem witness_StoredBodyIsCopied :
    ((0xFFFF : BitVec 16) = 0 ^^^ 0xFFFF#16 ∧ dec2.unp.produced.toNat + ([] : List Byte).length < 2 ^ 64) ∧
    ((0 : BitVec 16) ≠ 0 ^^^ 0xFFFF#16 ∧ busy dec2 = true ∧ dec2.nextCollect = dec2.nextCut) ∧
    ([I, I, I, I, I, I, I].length < 8 ∧ ([1, 2, 3] : List Byte).length < 4) ∧
    ({ dec2 with unp := { dec2.unp with bfinal := true } }.unp.bfinal = true) :=
  by decide +kernel

theorem witness_DynamicHeaderIsChecked :
    (busy dec2 = true ∧ dec2.nextCollect = dec2.nextCut) ∧
    (286 < (30#5).toNat + 257 ∧ 30 < (30#5).toNat + 1) ∧
    ((29#5).toNat + 257 ≤ 286 ∧ (29#5).toNat + 1 ≤ 30 ∧ kraft 7 (clLensOf [1, 1]) ≤ 2 ^ 7 ∧ 2 ^ 7 < kraft 7 (clLensOf [1, 1, 7])) :=
  by decide +kernel

theorem witness_LiteralLengthSymbols :
    257 ≤ 257 ∧ 257 ≤ 285 ∧ 0 < 2 ^ lenExtra 257 ∧
    (31 < 2 ^ lenExtra 284 ∧ 0 < 2 ^ lenExtra 285) ∧
    (dec2.unp.bfinal = false ∧ { dec2.unp with bfinal := true }.bfinal = true) :=
  by decide +kernel

theorem witness_DistanceSymbolsCopy :
    (0 < 2 ^ distExtra 0 ∧ 8191 < 2 ^ distExtra 29) ∧
    (distBase 1 + 0 ≤ dec2.unp.produced.toNat ∧ distBase 1 + 0 ≤ windowBytes dec2 ∧ dec2.unp.produced.toNat + dec2.rdLen < 2 ^ 64) ∧
    (dec2.unp.produced.toNat < distBase 2 + 0 ∧ busy dec2 = true ∧ dec2.nextCollect = dec2.nextCut) ∧
    (let s := { dec2 with unp := { dec2.unp with produced := 1025 } }
     distBase 20 + 0 ≤ s.unp.produced.toNat ∧ windowBytes s < distBase 20 + 0 ∧ busy s = true ∧ s.nextCollect = s.nextCut) :=
  by decide +kernel

theorem witness_DistanceSymbolsCopy_filled :
    WindowFilled dec2.unp :=
  dec2_filled

theorem witness_CodeLengthSymbolsExtendQ :
    (decSym clTree [I, I, I, O, I] = .sym 16 [] ∧ decSym clTree [I, I, I, O, I, I, I] = .sym 16 [I, I]) ∧
    (let s := { dec2 with rdQ := List.replicate 254 5 }
     s.rdQ.length + (3 + (0#2).toNat) < s.unp.hlit.toNat + s.unp.hdist.toNat + 258 ∧ s.rdQ.getLast? = some 5) ∧
    (let s := { dec2 with rdQ := List.replicate 256 5 }
     s.rdQ.length + 1 < s.unp.hlit.toNat + s.unp.hdist.toNat + 258 ∧ s.unp.hlit.toNat + s.unp.hdist.toNat + 258 < s.rdQ.length + (3 + (0#2).toNat) ∧
     busy s = true ∧ s.nextCollect = s.nextCut) ∧
    (dec2.rdQ = [] ∧ dec2.rdQ.length + (11 + (127#7).toNat) < 258) :=
  by decide +kernel

theorem witness_LastCodeLengthLoadsTheTables :
    (let s := { dec2 with rdQ := List.replicate 257 8 }
     busy s = true ∧ s.nextCollect = s.nextCut ∧ s.unp.hlit.toNat ≤ 29 ∧ s.unp.hdist.toNat ≤ 29 ∧
     s.rdQ.length + 1 = s.unp.hlit.toNat + s.unp.hdist.toNat + 258) ∧
    (let s := { dec2 with unp := { dec2.unp with hlit := 29, hdist := 29 }, rdQ := List.replicate 315 1 }
     s.unp.hlit.toNat ≤ 29 ∧ s.unp.hdist.toNat ≤ 29 ∧ s.rdQ.length + 1 = s.unp.hlit.toNat + s.unp.hdist.toNat + 258) :=
  by decide +kernel

theorem witness_LastCodeLengthLoadsTheTables_repeats :
    (let s := { dec2 with rdQ := List.replicate 255 8 }
     s.rdQ.getLast? = some 8 ∧ s.rdQ.length + (3 + (0#2).toNat) = s.unp.hlit.toNat + s.unp.hdist.toNat + 258) ∧
    (({ dec2 with rdQ := List.replicate 248 8 } : State).rdQ.length + (3 + (7#3).toNat) = dec2.unp.hlit.toNat + dec2.unp.hdist.toNat + 258) ∧
    (({ dec2 with rdQ := List.replicate 120 8 } : State).rdQ.length + (11 + (127#7).toNat) = dec2.unp.hlit.toNat + dec2.unp.hdist.toNat + 258) ∧
    (clInstr (15#4).toNat 0 = some .clLen15) :=
  by decide +kernel

theorem witness_ZlibHeaderIsChecked :
    busy dec2 = true ∧ dec2.nextCollect = dec2.nextCut ∧ ([0x78] : List Byte).length < 2 ∧
    zlibDefect 0x28 0x91 (windowBytes dec2) = none ∧ zlibDefect 0x38 0x8D (windowBytes dec2) = some .windowTooLarge ∧
    zlibDefect 0x79 0x9C 32768 = some .zlibBadCm ∧ zlibDefect 0x88 0x1C 32768 = some .zlibBadCinfo ∧
    zlibDefect 0x78 0x9D 32768 = some .zlibBadFcheck ∧ zlibDefect 0x78 0xBB 32768 = some .zlibFdict :=
  by decide +kernel

theorem witness_GzipHeaderIsChecked :
    busy dec2 = true ∧ dec2.nextCollect = dec2.nextCut ∧
    (2#8).getLsbD 1 = true ∧ gzipFixedDefect 0x1F 0x8B 8 0x1F = none ∧
    gzipFixedDefect 0x1F 0x8C 8 0 = some .gzipBadMagic ∧ gzipFixedDefect 0x1F 0x8B 7 0 = some .gzipBadCm ∧
    gzipFixedDefect 0x1F 0x8B 8 0x20 = some .gzipReservedFlg :=
  by decide +kernel

theorem witness_TrailersAreCompared :
    busy dec2 = true ∧ dec2.nextCollect = dec2.nextCut ∧ (1 : Word) = adlerFin base.adler ∧ (2 : Word) ≠ adlerFin base.adler ∧
    (0x02CC5D05 : Word) = xxh32 base.params.xxh base.content ∧ (0 : Word) = crcFin base.crc ∧
    (2 : Word).toNat = dec2.unp.produced.toNat % 2 ^ 32 :=
  by decide +kernel

theorem witness_Lz4FrameHeaderIsChecked :
    busy dec2 = true ∧ dec2.nextCollect = dec2.nextCut ∧ lz4FlgDefect 0x20 = some .lz4BadVersion ∧
    lz4FlgDefect 0x62 = some .lz4Reserved ∧ lz4BdDefect 0x41 = some .lz4Reserved ∧ lz4BdDefect 0x30 = some .lz4BadBlockmax ∧
    lz4BdDefect 0x40 = none ∧ lz4BdDefect 0x70 = none ∧ ([4, 0x22, 0x4D] : List Byte).length < 4 :=
  by decide +kernel

theorem witness_Lz4BlocksAreQueued :
    (let s := { dec2 with unp := { dec2.unp with blkmax := 4 }, nextCut := 0xFFFFFFFE, lz4flg := 0x70 }
     (4#31).toNat ≤ s.unp.blkmax.toNat ∧ (s.lz4flg.getLsbD 4 = true → (some (0 : Word)).isSome = true) ∧ s.nextCut ≠ 0xFFFFFFFF ∧
     s.unp.blkmax.toNat < (5#31).toNat) ∧
    (busy dec2 = true ∧ dec2.nextCollect = dec2.nextCut) :=
  by decide +kernel

theorem witness_Lz4BlocksAreQueued_held :
    (let s := { run .decompress .body 3 with agenda := [.agent .sequencer], deferred := some .lz4BlockTooBig, nextCut := 1 }
     s.agenda = .agent .sequencer :: [] ∧ busy s = true ∧ s.dir = .decompress ∧ ¬ (s.cancelReq = true ∧ hasUnits s = false) ∧
     s.deferred = some .lz4BlockTooBig ∧ s.nextCollect ≠ s.nextCut) ∧
    (let s := { run .decompress .body 3 with nextCut := 1 }
     s.unp.blkmax.toNat < (1#31).toNat ∧ busy s = true ∧ s.nextCollect ≠ s.nextCut) :=
  by decide +kernel

theorem witness_Lz4SequencesDecode :
    let s := packing 3 .unpack false
    s.engines[s.actor]? = some (engine4 .unpack false) ∧ WindowFilled (engine4 .unpack false).unp ∧
     (engine4 .unpack false).unp.produced.toNat + ([7] : List Byte).length + (0 + 4) < 2 ^ 64 ∧
     (engine4 .unpack false).unp.produced.toNat + ([7] : List Byte).length + (0 + 4) = (engine4 .unpack false).unp.blkmax.toNat :=
  ⟨rfl, engine4_window _ _, by decide, by decide⟩

theorem witness_Lz4SequencesDecode_lengths :
    Lz4LengthBytes (0x30 / 16) [] 3 ∧
    Lz4LengthBytes (0xF0 / 16) [0] 15 ∧
    Lz4LengthBytes 15 [255, 255, 254] 779 ∧
    ((0xF0 : Byte).toNat / 16 = 15 ∧ (0x1F : Byte).toNat % 16 = 15) ∧
    (([1, 2] : List Byte).length < 3 ∧ ([1, 2, 3] : List Byte).length = 3) :=
  ⟨.inl (by decide), .inr ⟨rfl, 0, 0, by decide, rfl, rfl⟩, .inr ⟨rfl, 2, 254, by decide, rfl, rfl⟩, by decide, by decide⟩

theorem witness_SnappyPreambleDeclares :
    (([0x80, 0x80, 0x80, 0x80, 0x0F] : List Byte).length ≤ 5 ∧ (([0x80, 0x80, 0x80, 0x80, 0x0F] : List Byte).getD 4 0).toNat ≤ 0x0F) ∧
    (0x0F < (([0x80, 0x80, 0x80, 0x80, 0x10] : List Byte).getD 4 0).toNat ∧ busy dec2 = true ∧ dec2.nextCollect = dec2.nextCut) ∧
    (∀ k, k < 4 → 128 ≤ (([0x80, 0x80, 0x80, 0x80, 0x0F] : List Byte).getD k 0).toNat) ∧
    (([0x7F] : List Byte) ≠ [] ∧ (([0x7F] : List Byte).getD 0 0).toNat < 128) :=
  by decide +kernel

theorem witness_SnappyElementsAreChecked_literal :
    (let s := { dec2 with unp := { dec2.unp with declared := 3 } }
     ([7] : List Byte).length = snpLitLen 60 [0] ∧ s.unp.produced.toNat + snpLitLen 60 [0] ≤ s.unp.declared.toNat ∧
     s.unp.declared.toNat < s.unp.produced.toNat + snpLitLen 1 [] ∧ busy s = true ∧ s.nextCollect = s.nextCut) :=
  by decide +kernel

theorem witness_SnappyElementsAreChecked_copy :
    busy dec2 = true ∧ dec2.nextCollect = dec2.nextCut ∧ WindowFilled dec2.unp ∧
    (∃ (a : BitVec 3) (b : BitVec 11), Instr.snpCopy1 0 2 = .snpCopy1 a b ∧ 2 = b.toNat ∧ 4 = a.toNat + 4) ∧
    (∃ (a : BitVec 6) (b : BitVec 16), Instr.snpCopy2 63 1025 = .snpCopy2 a b ∧ 1025 = b.toNat ∧ 64 = a.toNat + 1) ∧
    (∃ (a : BitVec 6) (b : BitVec 32), Instr.snpCopy4 0 0 = .snpCopy4 a b ∧ 0 = b.toNat ∧ 1 = a.toNat + 1) :=
  ⟨rfl, rfl, dec2_filled, ⟨0, 2, rfl, rfl, rfl⟩, ⟨63, 1025, rfl, rfl, rfl⟩, ⟨0, 0, rfl, rfl, rfl⟩⟩

theorem witness_StepRunsTheDecodedElement_sequencer :
    (let s : State := { run .decompress .body 0 with want := .dflHdr, strm := [3, 0], agenda := [.agent .sequencer] }
     SequencerReads s [] .dflHdr ∧ decode .dflHdr (unreadBits s.unp s.strm) = .ok (.dflBlockFixed true) [O, O, O, O, O, O, O, O, O, O, O, O, O]) ∧
    (let s : State := { run .decompress .body 3 with want := .lz4Blk, strm := [1, 0, 0], cancelReq := true, agenda := [.agent .sequencer] }
     SequencerReads s [] (.lz4Blk 0 false) ∧ decode (.lz4Blk 0 false) (unreadBits s.unp s.strm) = .short) ∧
    (let s : State := { run .decompress .body 0 with want := .dSym, strm := [7], agenda := [.agent .sequencer] }
     SequencerReads s [] (.dSym Tables.reset.treeD) ∧ decode (.dSym Tables.reset.treeD) (unreadBits s.unp s.strm) = .bad .hufNoCode) ∧
    (decSym (treeOf [1]) [I] = .noCode ∧ decSym (treeOf [2, 2]) [O] = .short) ∧
    (let s : State := { run .decompress .header 0 with want := .dflHdr, agenda := [.agent .sequencer] }
     s.agenda = .agent .sequencer :: [] ∧ s.phase = .header ∧ s.dir = .decompress ∧ s.want = .dflHdr ∧ s.deferred = none ∧
     ¬ (s.cancelReq = true ∧ hasUnits s = false)) :=
  by unfold SequencerReads; decide +kernel

theorem witness_StepRunsTheDecodedElement_engine :
    let g := { engine4 .pack true with st := .busy, tokbuf := [0x4000010102] }
    let s := { run .compress .body 0 with engines := [g], agenda := [.agent (.engine 0)] }
    EngineMoves s [] 0 g ∧ g.job = .pack ∧
     g.tokbuf[g.tokRd]? = some 0x4000010102 ∧ decode .token (natBits 40 (0x4000010102 : BitVec 40).toNat) = .ok (.matchTok 1 258) [] :=
  by unfold EngineMoves; decide +kernel

theorem witness_StepRunsHostAndInputElements :
    ({ base with agenda := [.host (.write 32 8 0x2236)] }.agenda = .host (.write 32 8 0x2236) :: []) ∧
    (let s := { base with agenda := [.host (.write 32 0 0xFFFFFFF1)] }
     s.agenda = .host (.write 32 0 0xFFFFFFF1) :: []) ∧
    (let s := { base with agenda := [.cfgField .codec 7] }
     s.agenda = .cfgField .codec 7 :: []) ∧
    (let s := { dec2 with inp := [⟨7, true, false⟩], agenda := [.agent .intake] }
     s.agenda = .agent .intake :: [] ∧ busy s = true ∧ s.inEnded = false ∧ s.inp = ⟨7, true, false⟩ :: [] ∧ beatElem ⟨7, true, false⟩ = some (.beatDataLast 7)) :=
  by decide +kernel

theorem witness_StepRunsHostAndInputElements_sequence :
    let g := { engine4 .unpack true with st := .busy, blkbuf := [(0, 0x10), (1, 0x41)], blklen := 2 }
    let s := { run .decompress .body 3 with engines := [g], agenda := [.agent (.engine 0)] }
    EngineMoves s [] 0 g ∧ g.job = .unpack ∧ BlockIs g [0x10, 0x41] ∧
     decode .lz4Seq (unreadBits g.unp [0x10, 0x41]) = .ok (.lz4LastSequence [0x41]) [] :=
  by unfold EngineMoves BlockIs; decide +kernel

theorem witness_StepRunsHostAndInputElements_failure :
    let g := { engine4 .unpack true with st := .busy, blkbuf := [(0, 0x20), (1, 0x41)], blklen := 2 }
    let s := { run .decompress .body 3 with engines := [g], agenda := [.agent (.engine 0)] }
    EngineMoves s [] 0 g ∧ g.job = .unpack ∧ BlockIs g [0x20, 0x41] ∧
     decode .lz4Seq (unreadBits g.unp [0x20, 0x41]) = .bad .lz4BadSeq :=
  by unfold EngineMoves BlockIs; decide +kernel

theorem witness_StepRunsHostAndInputElements_ports :
    (let s := { base with agenda := [.host (.send ⟨7, true, false⟩)] }
     s.agenda = .host (.send ⟨7, true, false⟩) :: []) ∧
    (let s := { base with agenda := [.host .take] }
     s.agenda = .host .take :: [] ∧ s.outp = []) ∧
    (let s := { base with outp := [⟨7, true, false⟩], agenda := [.host .take] }
     s.agenda = .host .take :: [] ∧ s.outp = ⟨7, true, false⟩ :: []) :=
  by decide +kernel

theorem witness_ResetRestoresTheResetValues :
    { base with agenda := [.host .reset] }.agenda = .host .reset :: [] :=
  by decide +kernel

theorem witness_TokenisingFillsTokbuf :
    (let g := { engine4 .tokenise true with st := .busy, pos := 3 }
     EngineMoves { packing 3 .tokenise true with engines := [g], agenda := [.agent (.engine 0)] } [] 0 g ∧ BlockIs g [1, 2, 3, 4] ∧
      g.pos.toNat < ([1, 2, 3, 4] : List Byte).length) ∧
    (let g := { engine4 .tokenise true with st := .busy, pos := 4 }
     EngineMoves { packing 0x100 .tokenise true with engines := [g], agenda := [.agent (.engine 0)] } [] 0 g ∧ BlockIs g [1, 2, 3, 4] ∧
      ([1, 2, 3, 4] : List Byte).length ≤ g.pos.toNat ∧ (codec (packing 0x100 .tokenise true)).isDeflate = true ∧
      treeModeOf (packing 0x100 .tokenise true).scfg.cfg = 1 ∧ treeModeOf (packing 0x200 .tokenise true).scfg.cfg ≠ 1) ∧
    (let g := { engine4 .tokenise true with st := .busy }
     let s := { packing 0x201 .tokenise true with engines := [g], agenda := List.replicate 5 (.agent (.engine 0)) }
     s.agenda = List.replicate ((lzBlock (lazyOf s.scfg.cfg) (matchLimits s) [1, 2, 3, 4]).length + 1) (.agent (.engine 0)) ++ [] ∧
      busy s = true ∧ s.engines[0]? = some g ∧ g.st = .busy ∧ g.job = .tokenise ∧ g.pos = 0 ∧ g.tokbuf = [] ∧ BlockIs g [1, 2, 3, 4]) ∧
    (131071 < 2 ^ 17 ∧ 65535 < 2 ^ 16) :=
  by unfold EngineMoves BlockIs; decide +kernel

theorem witness_EnginesBeginTheirUnit :
    (let g := { engine4 .start true with st := .busy }
     let s := { packing 0 .start true with engines := [g], agenda := [.agent (.engine 0)] }
     EngineMoves s [] 0 g ∧ g.job = .start ∧ BlockIs g [1, 2, 3, 4] ∧ s.dir = .compress ∧ (codec s).isDeflate = true ∧
      treeModeOf s.scfg.cfg = 0 ∧ g.bitcnt = 0 ∧ g.unit.index.toNat ∉ s.params.engineFault ∧ g.unit.index.toNat ∈ [0]) ∧
    (¬ ((codec (packing 3 .start true)).isDeflate = true ∧ treeModeOf (packing 3 .start true).scfg.cfg = 0)) ∧
    (let g := { engine4 .start true with st := .busy, blkCk := some 0 }
     let s := { run .decompress .body 3 with engines := [g], agenda := [.agent (.engine 0)] }
     EngineMoves s [] 0 g ∧ BlockIs g [1, 2, 3, 4] ∧ s.dir = .decompress ∧ g.blkCk ≠ some (xxh32 s.params.xxh [1, 2, 3, 4])) :=
  by unfold EngineMoves BlockIs; decide +kernel

theorem witness_CompressionWritesItsHeader :
    (let s : State := { run .compress .header 1 with agenda := [.agent .sequencer] }
     s.agenda = .agent .sequencer :: [] ∧ s.phase = .header ∧ s.dir = .compress ∧ codec s = .zlib ∧ s.scfg.windowKib.toNat = 1) ∧
    (codec (run .compress .header 0) = .deflate ∧ codec (run .compress .header 2) = .gzip ∧ codec (run .compress .header 3) = .lz4 ∧
     1 ≤ (run .compress .header 3).scfg.blockKib.toNat ∧ (4096 : Word).toNat ≤ 4096 ∧ codec (run .compress .header 4) = .snappy) ∧
    (2 ^ 32 ≤ (0x100000000 : BitVec 64).toNat ∧ ¬ 2 ^ 32 ≤ (0xFFFFFFFF : BitVec 64).toNat) :=
  by decide +kernel

theorem witness_SessionsEndInDone :
    (let s : State := { run .compress .body 1 with agenda := [.agent .sequencer], inEnded := true }
     s.agenda = .agent .sequencer :: [] ∧ s.dir = .compress ∧ s.phase = .body ∧ s.asm = [] ∧ s.blockQ = [] ∧ s.nextCollect = s.nextCut) ∧
    ((run .compress .trailer 1).phase = .trailer ∧ codec (run .compress .trailer 1) = .zlib) ∧
    (let s : State := { run .decompress .body 3 with agenda := [.agent .sequencer], want := .lz4Drain, cancelReq := true, lz4flg := 0x68 }
     s.agenda = .agent .sequencer :: [] ∧ busy s = true ∧ s.dir = .decompress ∧ s.deferred = none ∧
     ¬ (s.cancelReq = true ∧ hasUnits s = false) ∧ s.want = .lz4Drain ∧ s.nextCollect = s.nextCut ∧ s.lz4flg.getLsbD 3 = true ∧
     s.unp.declared = s.outcnt ∧ ({ s with nextCut := 1 } : State).nextCollect ≠ 1) ∧
    (let s : State := { run .decompress .body 4 with want := .snpTag }
     s.want = .snpTag ∧ s.unp.produced = s.unp.declared) ∧
    (let s : State := { run .decompress .trailer 4 with want := .trailing, strm := [1], inEnded := true }
     s.want = .trailing ∧ s.nextCollect = s.nextCut ∧ s.unp.cur.toNat < s.strm.length ∧ ¬ (1#64).toNat < s.strm.length) :=
  by decide +kernel

theorem witness_RegisterWindow :
    ((16 ≠ 32 ∨ 0 % 4 ≠ 0) ∧ (32 ≠ 32 ∨ 2 % 4 ≠ 0)) ∧
    (4 % 4 = 0 ∧ 0x18 % 4 = 0 ∧ 0x38 % 4 = 0 ∧ 0x38 ≤ 0x38) ∧
    busy base = false :=
  by decide +kernel

theorem witness_CollectsInIndexOrder :
    let s := { run .compress .body 0 with nextCollect := 3 }
    busy s = true ∧ hasUnits s = true ∧ s.cancelReq = false ∧ s.phase ≠ .header ∧
     s.engines[s.nextCollect.toNat % s.scfg.engines.toNat]? = some Engine.reset ∧
     { Engine.reset with st := .done, unit := { Engine.reset.unit with index := 3 } }.unit.index = s.nextCollect ∧
     Engine.reset.unit.index ≠ s.nextCollect :=
  by decide +kernel

theorem witness_CollectsInIndexOrder_header :
    (let s := run .compress .header 4
     s.cancelReq = false ∧ s.phase = .header ∧ busy s = true ∧ hasUnits s = true) ∧
    (busy base = false ∧ hasUnits (run .decompress .body 0) = false) :=
  by decide +kernel

theorem witness_DispatchesRoundRobin :
    let q : Waiting := { bytes := [7], start := 0, isFinal := true, stored := false, ck := none }
    let s := { run .compress .body 0 with blockQ := [q], nextDispatch := 3 }
    busy s = true ∧ s.blockQ = q :: [] ∧ q.bytes.length < 2 ^ 23 ∧
     s.engines[s.nextDispatch.toNat % s.scfg.engines.toNat]? = some Engine.reset ∧ Engine.reset.st = .idle ∧
     { Engine.reset with st := .busy }.st ≠ .idle :=
  by decide +kernel

theorem witness_invariants_meet_a_step :
    memWf dec2 = true ∧ cfgReservedZero dec2 = true ∧ cfgSound dec2 = true ∧ wantInPhase { dec2 with want := .llSym } = true ∧
    poolComplete dec2 = true ∧ idleOutside dec2 = true ∧ adlerReduced dec2 = true :=
  by decide +kernel

theorem witness_invariants_step :
    (∃ t, step { dec2 with agenda := [.host (.write 32 0 3)] } = .next t) ∧ (∃ t, step { base with agenda := [.host (.write 32 0 1)] } = .next t) :=
  ⟨⟨_, rfl⟩, ⟨_, rfl⟩⟩

theorem witness_BuffersStaySound :
    WindowFilled dec2.unp ∧ ∀ g ∈ [engine4 .pack true], WindowFilled g.unp ∧ BlockFilled g :=
  ⟨dec2_filled, by intro g hg; rw [List.mem_singleton] at hg; subst hg; exact ⟨engine4_window _ _, engine4_filled _ _⟩⟩

end Sys2Proof.Tests
end

/-! PROOFS. What the operations on an engine do to its byte memories (R46, R47): they stay canonical and filled. -/

namespace Sys2Proof.Proofs

open Machine Safety Laws

/-! ### Buffers: what a change of an unpacker or engine keeps (R46, R47) -/

/-- From `u` to `v` a window stays canonical and filled (R47). -/
structure WindowKept (u v : Unpacker) : Prop where
  wf : Memory.wf u.outwin = true → Memory.wf v.outwin = true
  filled : WindowFilled u → WindowFilled v

/-- The window and the number of bytes in it are the same. -/
theorem WindowKept.of_same {u v : Unpacker} (hw : v.outwin = u.outwin := by rfl)
    (hp : v.produced = u.produced := by rfl) : WindowKept u v :=
  ⟨fun h => hw ▸ h, fun h a ha => hw ▸ h a (hp ▸ ha)⟩

theorem WindowKept.trans {u v w : Unpacker} (h : WindowKept u v) (k : WindowKept v w) : WindowKept u w :=
  ⟨k.wf ∘ h.wf, k.filled ∘ h.filled⟩

/-- An empty window with nothing produced (R385, R398). -/
theorem WindowKept.of_empty {u v : Unpacker} (hw : v.outwin = [] := by rfl) (hp : v.produced = 0 := by rfl) :
    WindowKept u v :=
  ⟨fun _ => by rw [hw]; rfl, fun _ a ha => by simp [hp] at ha⟩

/-- `LZ.LITOUT` writes the byte at `PRODUCED` before it counts it (R180). -/
theorem windowKept_litOut (u : Unpacker) (b : Byte) :
    WindowKept u { u with outwin := u.outwin.write u.produced.toNat b, produced := u.produced + 1 } where
  wf h := wf_write h _ _
  filled h a ha := by
    have hlt : a < u.produced.toNat + 1 := by
      have := Nat.mod_le (u.produced.toNat + 1) (2 ^ 64)
      simp only [BitVec.toNat_add] at ha
      exact Nat.lt_of_lt_of_le ha this
    show ((u.outwin.write u.produced.toNat b).read a).isSome = true
    rw [read_write]
    split
    · rfl
    · exact h a (by omega)

/-- From `g` to `h` an engine's memories stay canonical and filled (R46, R47). -/
structure EngineKept (g h : Engine) : Prop where
  window : WindowKept g.unp h.unp
  block_wf : Memory.wf g.blkbuf = true → Memory.wf h.blkbuf = true
  block_filled : BlockFilled g → BlockFilled h

theorem EngineKept.trans {g h k : Engine} (a : EngineKept g h) (b : EngineKept h k) : EngineKept g k :=
  ⟨a.window.trans b.window, b.block_wf ∘ a.block_wf, b.block_filled ∘ a.block_filled⟩

/-- What of an engine the buffer invariants speak of. -/
def buffers (g : Engine) : Memory × BitVec 23 × Memory × BitVec 64 :=
  (g.blkbuf, g.blklen, g.unp.outwin, g.unp.produced)

theorem EngineKept.of_buffers {g h : Engine} (e : buffers h = buffers g) : EngineKept g h := by
  simp only [buffers, Prod.mk.injEq] at e
  obtain ⟨hb, hl, hw, hp⟩ := e
  exact ⟨.of_same hw hp, fun k => hb ▸ k, fun k a ha => hb ▸ k a (hl ▸ ha)⟩

theorem EngineKept.refl (g : Engine) : EngineKept g g := .of_buffers rfl

/-- A change of the unpacker alone. -/
theorem EngineKept.of_window {g h : Engine} (hw : WindowKept g.unp h.unp) (hb : h.blkbuf = g.blkbuf := by rfl)
    (hl : h.blklen = g.blklen := by rfl) : EngineKept g h :=
  ⟨hw, fun k => hb ▸ k, fun k a ha => hb ▸ k a (hl ▸ ha)⟩

/-! ### Writing into a result leaves the buffers (R70, R71, R210) -/

@[simp] theorem buffers_putBit (b : Bool) (g : Engine) : buffers (putBit b g) = buffers g := by
  unfold putBit; split <;> rfl

@[simp] theorem buffers_putBitList (bs : List Bool) (g : Engine) : buffers (putBitList bs g) = buffers g := by
  induction bs generalizing g with
  | nil => rfl
  | cons b bs ih => rw [putBitList, ih, buffers_putBit]

@[simp] theorem buffers_putBits (v k : Nat) (g : Engine) : buffers (putBits v k g) = buffers g :=
  buffers_putBitList _ _

@[simp] theorem buffers_alignOut (g : Engine) : buffers (alignOut g) = buffers g := by
  unfold alignOut; split <;> simp

@[simp] theorem buffers_putBytes (s : List Byte) (g : Engine) : buffers (putBytes s g) = buffers g := rfl

@[simp] theorem buffers_putSym (t : Tree) (s : Nat) (g : Engine) : buffers (putSym t s g) = buffers g :=
  buffers_putBitList _ _

@[simp] theorem buffers_putSymX (t : Tree) (x : SymX) (g : Engine) : buffers (putSymX t x g) = buffers g := by
  simp [putSymX]

@[simp] theorem buffers_putHeader (n : Nat) (g : Engine) : buffers (putHeader n g) = buffers g := by
  simp [putHeader]

@[simp] theorem buffers_putItems (t : Tree) (its : List RleItem) (g : Engine) :
    buffers (putItems t its g) = buffers g := by
  induction its generalizing g with
  | nil => rfl
  | cons it its ih => rw [putItems, ih, buffers_putBits, buffers_putSym]

@[simp] theorem buffers_putClLens (lens os : List Nat) (g : Engine) : buffers (putClLens lens os g) = buffers g := by
  induction os generalizing g with
  | nil => rfl
  | cons o os ih => rw [putClLens, ih, buffers_putBits]

@[simp] theorem buffers_putStored (cs : List (List Byte)) (g : Engine) : buffers (putStored cs g) = buffers g := by
  induction cs generalizing g with
  | nil => rfl
  | cons c cs ih => simp [putStored, ih]

@[simp] theorem buffers_finishEngine (g : Engine) : buffers (finishEngine g) = buffers g := rfl

@[simp] theorem buffers_writeDynHeader (g : Engine) : buffers (writeDynHeader g) = buffers g := by
  simp only [writeDynHeader, buffers_putItems, buffers_putClLens, buffers_putBits, buffers_putHeader]
  rfl

@[simp] theorem buffers_endBlock (g : Engine) : buffers (endBlock g) = buffers g := by
  unfold endBlock; split <;> simp

/-! ### The packers leave the buffers (R244, R245, R315, R355) -/

theorem buffers_dflLit (b : Byte) (g : Engine) : buffers (dflLit b g) = buffers g := by
  unfold dflLit; split
  · rfl
  · simp

theorem buffers_dflMatch (off len : Nat) (g : Engine) : buffers (dflMatch off len g) = buffers g := by
  unfold dflMatch; split
  · rfl
  · simp

theorem buffers_restartTokens (g : Engine) : buffers { g with job := .pack, tokRd := 0, cov := 0 } = buffers g := rfl

theorem buffers_dflEob (g : Engine) : buffers (dflEob g) = buffers g := by
  unfold dflEob; split
  · rw [buffers_restartTokens, buffers_writeDynHeader]; rfl
  · simp

theorem buffers_lz4Match {off len : Nat} {g h : Engine} (e : lz4Match off len g = some h) : buffers h = buffers g := by
  unfold lz4Match at e
  split at e
  · cases e
  · cases e; rfl

theorem buffers_lz4Eob {g h : Engine} (e : lz4Eob g = some h) : buffers h = buffers g := by
  unfold lz4Eob at e
  split at e
  · cases e
  · dsimp only at e
    split at e
    · cases e; rfl
    · split at e
      · cases e
      · cases e; rfl

theorem buffers_snpFlush {g h : Engine} (e : snpFlush g = some h) : buffers h = buffers g := by
  unfold snpFlush at e
  split at e
  · cases e
  · cases e; split
    · rfl
    · simp

theorem buffers_snpMatch {off len : Nat} {g h : Engine} (e : snpMatch off len g = some h) :
    buffers h = buffers g := by
  unfold snpMatch at e
  split at e
  · cases e
  · rename_i k hk
    have hf := buffers_snpFlush hk
    cases e; exact hf

theorem buffers_snpEob {g h : Engine} (e : snpEob g = some h) : buffers h = buffers g := by
  unfold snpEob at e
  split at e
  · cases e
  · rename_i k hk
    have hf := buffers_snpFlush hk
    cases e; exact hf

/-! ### An engine's decoder and its unit (R180, R181, R325, R390, R391) -/

theorem engLitOut_kept (b : Byte) (g : Engine) : EngineKept g (engLitOut b g) :=
  .of_window (windowKept_litOut g.unp b)

theorem engLitsOut_kept (bs : List Byte) (g : Engine) : EngineKept g (engLitsOut bs g) := by
  induction bs generalizing g with
  | nil => exact .refl g
  | cons b bs ih => exact (engLitOut_kept b g).trans (ih _)

theorem engCopyOut_kept {off n : Nat} {g h : Engine} (e : engCopyOut off n g = some h) : EngineKept g h := by
  induction n generalizing g with
  | zero => cases e; exact .refl _
  | succ n ih =>
    unfold engCopyOut at e
    split at e
    · cases e
    · exact (engLitOut_kept _ g).trans (ih e)

theorem seqLits_kept {lits : List Byte} {g h : Engine} (e : seqLits lits g = some h) : EngineKept g h := by
  unfold seqLits at e
  split at e
  · cases e
  · cases e; exact engLitsOut_kept lits g

theorem seqEngine_kept {window : Nat} {lits : List Byte} {mat : Option (BitVec 16 × Nat)} {g h : Engine}
    (e : seqEngine window lits mat g = some h) : EngineKept g h := by
  unfold seqEngine at e
  split at e
  · cases e; exact .of_buffers rfl
  · rename_i k hk
    refine (seqLits_kept hk).trans ?_
    split at e
    · cases e; exact .of_buffers rfl
    · split at e
      · cases e; exact .of_buffers rfl
      · split at e
        · cases e; exact .of_buffers rfl
        · split at e
          · cases e; exact .of_buffers rfl
          · exact engCopyOut_kept e

theorem beginBlock_kept (g : Engine) : EngineKept g (beginBlock g) :=
  .of_window .of_empty

theorem read_ofBytesAt (a x : Nat) (bs : List Byte) (h : a ≤ x) :
    (Memory.ofBytesAt a bs).read x = bs[x - a]? := by
  induction bs generalizing a with
  | nil => rfl
  | cons b bs ih =>
    simp only [Memory.ofBytesAt, Memory.read]
    split
    · subst x; simp
    · rw [ih (a + 1) (by omega), show x - a = x - (a + 1) + 1 by omega, List.getElem?_cons_succ]

/-- A hand-over loads the whole block into `BLKBUF` (R390). -/
theorem loadUnit_kept (index : Word) (w : Waiting) (m : BitVec 23) (g : Engine) :
    EngineKept g (loadUnit index w m g) where
  window := .of_same
  block_wf _ := wf_ofBytes w.bytes
  block_filled _ a ha := by
    have hlt : a < w.bytes.length := by
      have : a < w.bytes.length % 2 ^ 23 := by simpa [loadUnit] using ha
      exact Nat.lt_of_lt_of_le this (Nat.mod_le _ _)
    show ((Memory.ofBytesAt 0 w.bytes).read a).isSome = true
    rw [read_ofBytesAt 0 a _ (Nat.zero_le a)]
    simp [hlt]

theorem engineStart_kept {s : State} {g h : Engine} (e : engineStart s g = some h) : EngineKept g h := by
  unfold engineStart at e
  split at e
  · cases e; exact .of_buffers rfl
  · split at e
    · split at e
      · split at e
        · cases e
        · cases e; exact .of_buffers (by simp; rfl)
      · cases e; exact .of_buffers rfl
    · split at e
      · cases e
      · split at e
        · cases e; exact (beginBlock_kept g).trans (.of_buffers rfl)
        · split at e
          · cases e
            exact ((beginBlock_kept g).trans (engLitsOut_kept _ _)).trans (.of_buffers rfl)
          · cases e; exact (beginBlock_kept g).trans (.of_buffers rfl)

theorem buffers_endTokens (s : State) (g : Engine) : buffers (endTokens s g) = buffers g := by
  unfold endTokens
  dsimp only
  split
  · split
    · exact buffers_putHeader 1 _
    · rfl
  · rfl

theorem buffers_tokeniseStep {s : State} {g h : Engine} (e : tokeniseStep s g = some h) : buffers h = buffers g := by
  unfold tokeniseStep at e
  split at e
  · split at e
    · cases e
    · cases e; rfl
  · cases e; exact buffers_endTokens s g

end Sys2Proof.Proofs


/-! PROOFS. What the shared operations keep, in three relations between the state before and after:
`Keeps` (any change), `Quiet` (no session begins or ends) and `Works` (a running session goes on or ends). -/

namespace Sys2Proof.Proofs

open Machine Safety Laws

/-! ### Adler halves (R158, R162) -/

theorem adlerPack_halves {a b : Nat} (ha : a < 65521) (hb : b < 65521) :
    adlerA (adlerPack a b) < 65521 ∧ adlerB (adlerPack a b) < 65521 := by
  simp only [adlerA, adlerB, adlerPack, BitVec.toNat_ofNat]
  omega

/-- One byte leaves both halves reduced, whatever they were (R158). -/
theorem adlerByte_halves (v : Word) (x : Byte) :
    adlerA (adlerByte v x) < 65521 ∧ adlerB (adlerByte v x) < 65521 :=
  adlerPack_halves (Nat.mod_lt _ (by decide)) (Nat.mod_lt _ (by decide))

theorem adlerUpd_halves {v : Word} (h : adlerA v < 65521 ∧ adlerB v < 65521) (bs : List Byte) :
    adlerA (adlerUpd v bs) < 65521 ∧ adlerB (adlerUpd v bs) < 65521 := by
  induction bs generalizing v with
  | nil => exact h
  | cons b bs ih => exact ih (adlerByte_halves v b)

theorem adlerReduced_ckTake {s : State} (h : adlerReduced s = true) (bs : List Byte) :
    adlerReduced (ckTake bs s) = true := by
  unfold ckTake
  split
  · exact h
  · exact h
  · simp only [adlerReduced, decide_eq_true_eq] at h ⊢
    exact adlerUpd_halves h bs

/-! ### What every change of the state keeps -/

/-- Every byte below `PRODUCED` or `BLKLEN` is in its buffer (R46, R47). -/
def BuffersFilled (s : State) : Prop :=
  WindowFilled s.unp ∧ ∀ g ∈ s.engines, WindowFilled g.unp ∧ BlockFilled g

/-- The invariants that every operation keeps by itself, in a session or outside one. -/
structure Keeps (s t : State) : Prop where
  params : t.params = s.params
  adler : adlerReduced s = true → adlerReduced t = true
  pool : poolComplete s = true → poolComplete t = true
  memory : memWf s = true → memWf t = true
  filled : BuffersFilled s → BuffersFilled t

theorem Keeps.trans {s t u : State} (h : Keeps s t) (k : Keeps t u) : Keeps s u :=
  ⟨k.params.trans h.params, k.adler ∘ h.adler, k.pool ∘ h.pool, k.memory ∘ h.memory, k.filled ∘ h.filled⟩

/-- From `s` to `t` the pool keeps its size, and each engine comes from one that it keeps the buffers of. -/
structure PoolKept (s t : State) : Prop where
  size : t.engines.length = s.engines.length
  engine : ∀ h ∈ t.engines, ∃ g ∈ s.engines, EngineKept g h

theorem PoolKept.of_same {s t : State} (e : t.engines = s.engines := by rfl) : PoolKept s t :=
  ⟨by rw [e], fun h hh => ⟨h, e ▸ hh, .refl h⟩⟩

theorem PoolKept.of_map {s t : State} {f : Engine → Engine} (hf : ∀ g, EngineKept g (f g))
    (e : t.engines = s.engines.map f := by rfl) : PoolKept s t :=
  ⟨by rw [e, List.length_map], fun h hh => by
    rw [e] at hh
    obtain ⟨g, hg, rfl⟩ := List.mem_map.mp hh
    exact ⟨g, hg, hf g⟩⟩

theorem PoolKept.of_set {s t : State} {e : Nat} {g h : Engine} (hg : s.engines[e]? = some g) (hk : EngineKept g h)
    (he : t.engines = s.engines.set e h := by rfl) : PoolKept s t :=
  ⟨by rw [he, List.length_set], fun k hm => by
    rw [he] at hm
    rcases List.mem_or_eq_of_mem_set hm with hm | rfl
    · exact ⟨k, hm, .refl k⟩
    · exact ⟨g, List.mem_of_getElem? hg, hk⟩⟩

/-- The parts of `Keeps`, each kept by itself. -/
theorem Keeps.of_parts {s t : State} (hw : WindowKept s.unp t.unp) (hp : PoolKept s t)
    (ha : adlerReduced s = true → adlerReduced t = true) (hq : t.params = s.params := by rfl) : Keeps s t where
  params := hq
  adler := ha
  pool h := by
    simp only [poolComplete, beq_iff_eq] at h ⊢
    rw [hp.size, hq, h]
  memory h := by
    simp only [memWf, engineMemWf, Bool.and_eq_true, List.all_eq_true] at h ⊢
    refine ⟨hw.wf h.1, fun k hk => ?_⟩
    obtain ⟨g, hg, kept⟩ := hp.engine k hk
    exact ⟨kept.block_wf (h.2 g hg).1, kept.window.wf (h.2 g hg).2⟩
  filled h := by
    refine ⟨hw.filled h.1, fun k hk => ?_⟩
    obtain ⟨g, hg, kept⟩ := hp.engine k hk
    exact ⟨kept.window.filled (h.2 g hg).1, kept.block_filled (h.2 g hg).2⟩

/-! ### Changes that neither begin nor end a session -/

/-- Every engine is in the idle pool (R393). -/
def AllIdle (s : State) : Prop := ∀ g ∈ s.engines, g.st = .idle

theorem idleOutside_iff (s : State) : idleOutside s = true ↔ (busy s = false → AllIdle s) := by
  cases h : busy s <;> simp [idleOutside, h, AllIdle]

/-- A change that leaves alone what makes a session: the configuration, `SCFG` and `BUSY`. -/
structure Quiet (s t : State) : Prop extends Keeps s t where
  scfg : t.scfg = s.scfg
  cfg : t.regs.cfg = s.regs.cfg
  busy : Machine.busy t = Machine.busy s
  idle : AllIdle s → AllIdle t

theorem Quiet.trans {s t u : State} (h : Quiet s t) (k : Quiet t u) : Quiet s u :=
  ⟨h.toKeeps.trans k.toKeeps, k.scfg.trans h.scfg, k.cfg.trans h.cfg, k.busy.trans h.busy, k.idle ∘ h.idle⟩

/-- A change of other items only. -/
theorem Quiet.of_same {s t : State} (hw : WindowKept s.unp t.unp := by exact .of_same)
    (ha : t.adler = s.adler := by rfl) (he : t.engines = s.engines := by rfl)
    (hp : t.params = s.params := by rfl) (hs : t.scfg = s.scfg := by rfl)
    (hc : t.regs.cfg = s.regs.cfg := by rfl) (hb : Machine.busy t = Machine.busy s := by rfl) : Quiet s t :=
  { Keeps.of_parts hw (.of_same he) (fun h => by simpa only [adlerReduced, ha] using h) hp with
    scfg := hs, cfg := hc, busy := hb, idle := fun h g hg => h g (he ▸ hg) }

theorem Quiet.refl (s : State) : Quiet s s := .of_same

theorem ckTake_quiet (bs : List Byte) (s : State) : Quiet s (ckTake bs s) :=
  { Keeps.of_parts (by rw [ckTake_unp]; exact .of_same) (.of_same (ckTake_engines bs s))
      (fun h => adlerReduced_ckTake h bs) (ckTake_params bs s) with
    scfg := ckTake_scfg bs s
    cfg := by rw [ckTake_regs]
    busy := by rw [Machine.busy, Machine.busy, ckTake_phase]
    idle := fun h g hg => h g (ckTake_engines bs s ▸ hg) }

theorem emit_quiet (bs : List Byte) (s : State) : Quiet s (emit bs s) :=
  .of_same (by rw [emit_unp]; exact .of_same) (emit_adler bs s) (emit_engines bs s) (emit_params bs s)
    (emit_scfg bs s) (by rw [emit_regs]) (by rw [busy, busy, emit_phase])

/-- `LZ.LITOUT` (R180). -/
theorem litOut_quiet (b : Byte) (s : State) : Quiet s (litOut b s) :=
  (Quiet.of_same (windowKept_litOut s.unp b)).trans ((ckTake_quiet [b] _).trans (emit_quiet [b] _))

theorem litsOut_quiet (bs : List Byte) (s : State) : Quiet s (litsOut bs s) := by
  induction bs generalizing s with
  | nil => exact .refl s
  | cons b bs ih => exact (litOut_quiet b s).trans (ih _)

/-- `LZ.COPY` (R181). -/
theorem copyOut_quiet {off n : Nat} {s t : State} (h : copyOut off n s = some t) : Quiet s t := by
  obtain ⟨bs, _, rfl⟩ := copyOut_frame h
  exact litsOut_quiet bs s

/-! ### The work of a session -/

/-- A change that leaves the configuration and `SCFG`, and from a running session leads on in it or to an idle pool. -/
structure Works (s t : State) : Prop extends Keeps s t where
  scfg : t.scfg = s.scfg
  cfg : t.regs.cfg = s.regs.cfg
  pooled : busy s = true → idleOutside t = true

theorem Quiet.works {s t : State} (h : Quiet s t) : Works s t :=
  { h with pooled := fun hb => by rw [idleOutside_iff, h.busy, hb]; exact nofun }

theorem Works.after {s t u : State} (h : Quiet s t) (k : Works t u) : Works s u :=
  { h.toKeeps.trans k.toKeeps with
    scfg := k.scfg.trans h.scfg
    cfg := k.cfg.trans h.cfg
    pooled := fun hb => k.pooled (h.busy.trans hb) }

/-- The session goes on: a change of the phase and of other items only. -/
theorem Works.of_running {s t : State} (hb : busy t = true := by rfl) (hw : WindowKept s.unp t.unp := by exact .of_same)
    (ha : t.adler = s.adler := by rfl) (he : t.engines = s.engines := by rfl) (hp : t.params = s.params := by rfl)
    (hs : t.scfg = s.scfg := by rfl) (hc : t.regs.cfg = s.regs.cfg := by rfl) : Works s t :=
  { Keeps.of_parts hw (.of_same he) (fun h => by simpa only [adlerReduced, ha] using h) hp with
    scfg := hs, cfg := hc, pooled := fun _ => by simp [idleOutside, hb] }

/-- The session ends with every engine back in the pool (R393). -/
theorem Works.of_dropped {s t : State} (he : t.engines = s.engines.map idleEngine := by rfl)
    (hw : WindowKept s.unp t.unp := by exact .of_same) (ha : t.adler = s.adler := by rfl)
    (hp : t.params = s.params := by rfl) (hs : t.scfg = s.scfg := by rfl)
    (hc : t.regs.cfg = s.regs.cfg := by rfl) : Works s t :=
  { Keeps.of_parts hw (.of_map (f := idleEngine) (fun _ => .of_buffers rfl) he)
      (fun h => by simpa only [adlerReduced, ha] using h) hp with
    scfg := hs
    cfg := hc
    pooled := fun _ => by
      rw [idleOutside_iff]
      intro _ g hg
      rw [he] at hg
      obtain ⟨k, _, rfl⟩ := List.mem_map.mp hg
      rfl }

/-- An engine of the session moves on. -/
theorem Works.of_engine {s t : State} {e : Nat} {g h : Engine} (hg : s.engines[e]? = some g) (hk : EngineKept g h)
    (he : t.engines = s.engines.set e h := by rfl) (hu : t.unp = s.unp := by rfl) (ha : t.adler = s.adler := by rfl)
    (hp : t.params = s.params := by rfl) (hs : t.scfg = s.scfg := by rfl) (hc : t.regs.cfg = s.regs.cfg := by rfl)
    (hb : t.phase = s.phase := by rfl) : Works s t :=
  { Keeps.of_parts (by rw [hu]; exact .of_same) (.of_set hg hk he)
      (fun h => by simpa only [adlerReduced, ha] using h) hp with
    scfg := hs
    cfg := hc
    pooled := fun hr => by rw [idleOutside_iff, busy, hb]; exact fun hf => by simp [busy, hf] at hr }

theorem setEngine_works {s : State} {e : Nat} {g h : Engine} (hg : s.engines[e]? = some g) (hk : EngineKept g h) :
    Works s (setEngine e h s) := .of_engine hg hk

theorem failWith_works (k : BitVec 4) (d : BitVec 8) (e : Nat) (b : Word) (s : State) :
    Works s (failWith k d e b s) := by
  cases h : busy s with
  | false => rw [failWith_idle h]; exact (Quiet.refl s).works
  | true => rw [failWith_busy h]; exact .of_dropped

theorem failSession_works (d : Detail) (s : State) : Works s (failSession d s) := failWith_works _ _ _ _ s

theorem raiseSeq_works (d : Detail) (s : State) : Works s (raiseSeq d s) := by
  obtain ⟨_, h⟩ | ⟨_, h⟩ := raiseSeq_cases d s
  · rw [h]; exact failSession_works d s
  · rw [h]; exact Quiet.works .of_same

theorem cancelSession_works (s : State) : Works s (cancelSession s) := .of_dropped

theorem completeSession_works (s : State) : Works s (completeSession s) := .of_dropped

/-! ### A start command and a reset -/

theorem initSession_keeps (d : Dir) (s : State) : Keeps s (initSession d s) :=
  .of_parts .of_empty (.of_map (f := idleEngine) fun _ => .of_buffers rfl) fun _ => by
    show decide (adlerA adlerInit < 65521 ∧ adlerB adlerInit < 65521) = true
    decide

theorem startSession_keeps (d : Dir) (s : State) : Keeps s (startSession d s) := by
  obtain ⟨_, h⟩ | ⟨e, _, h⟩ := startSession_cases d s
  · rw [h]; exact initSession_keeps d s
  · rw [h]; exact (initSession_keeps d s).trans (failSession_works e _).toKeeps

end Sys2Proof.Proofs


/-! PROOFS. Every step is one of five moves (`step_move`): from the meaning of each element and the
turn of each agent. -/

namespace Sys2Proof.Proofs

open Machine Safety Laws

/-! ### What a step can do -/

/-- Everything a step can come to, for the configuration, the session and the buffers. -/
inductive Move (s t : State) : Prop where
  /-- Nothing that makes a session changes. -/
  | quiet (h : Quiet s t)
  /-- A running session's work. -/
  | work (hb : busy s = true) (h : Works s t)
  /-- One field of `CFG` is written (R95). -/
  | config (f : CfgField) (v : Nat) (s' : State) (h : Quiet s s') (ht : t = setCfg f.pos f.width v s')
  /-- The machine is reset (R382, R470). -/
  | reset (s' : State) (h : Quiet s s') (ht : t = resetMachine s')
  /-- A session begins (R385). -/
  | start (d : Dir) (s' : State) (hb : busy s = false) (h : Quiet s s') (hr : s'.regs = s.regs)
      (ht : t = startSession d s')

theorem Move.after {s t u : State} (h : Quiet s t) (hr : t.regs = s.regs) (k : Move t u) : Move s u := by
  cases k with
  | quiet k => exact .quiet (h.trans k)
  | work hb k => exact .work (h.busy ▸ hb) (.after h k)
  | config f v s' k hu => exact .config f v s' (h.trans k) hu
  | reset s' k hu => exact .reset s' (h.trans k) hu
  | start d s' hb k hk hu => exact .start d s' (h.busy ▸ hb) (h.trans k) (hk.trans hr) hu

/-! ### Commands, configuration fields and beats -/

theorem startCommand_move {d : Dir} {s t : State} (h : startCommand d s = .next t) : Move s t := by
  unfold startCommand at h
  cases h
  split
  · exact .quiet (.refl s)
  · exact .start d s (Bool.not_eq_true _ ▸ ‹¬ _›) (.refl s) rfl rfl

theorem execCancel_move {s t : State} (h : execCancel s = .next t) : Move s t := by
  unfold execCancel at h
  cases h
  split
  · exact .quiet .of_same
  · exact .quiet (.refl s)

/-- A `CFG` element writes its field (R95). -/
theorem setCfg_move {s t : State} (f : CfgField) (v : Nat)
    (h : (.next (setCfg f.pos f.width v s) : Res) = .next t) : Move s t := by
  cases h
  exact .config f v s (.refl s) rfl

theorem cutBlock_quiet {f : Bool} {s t : State} (h : cutBlock f s = .next t) : Quiet s t := by
  unfold cutBlock at h
  split at h
  · cases h
  · cases h; exact .of_same

theorem takeRaw_quiet {b : Byte} {l : Bool} {s t : State} (h : takeRaw b l s = .next t) : Quiet s t := by
  have h1 : Quiet s (ckTake [b] { s with incnt := s.incnt + 1, asm := s.asm ++ [b], inEnded := l }) :=
    Quiet.trans .of_same (ckTake_quiet [b] _)
  unfold takeRaw at h
  dsimp only at h
  split at h
  · exact h1.trans (cutBlock_quiet h)
  · cases h; exact h1

theorem takeBeat_quiet {b : Byte} {l : Bool} {s t : State} (h : takeBeat b l s = .next t) : Quiet s t := by
  unfold takeBeat at h
  split at h
  · cases h
    split
    · exact .of_same
    · exact .refl s
  · split at h
    · split at h
      · exact takeRaw_quiet h
      · cases h; exact .of_same
    · cases h; exact .refl s

theorem execBeatEndEmpty_quiet {s t : State} (h : execBeatEndEmpty s = .next t) : Quiet s t := by
  unfold execBeatEndEmpty at h
  split at h
  · cases h; exact .of_same
  · split at h
    · dsimp only at h
      split at h
      · split at h
        · exact Quiet.trans .of_same (cutBlock_quiet h)
        · cases h; exact .of_same
      · cases h; exact .of_same
    · cases h; exact .refl s

/-! ### The elements of a session's streams -/

theorem Works.of_next {s t u : State} (h : (.next t : Res) = .next u) (k : Works s t) : Works s u := by
  cases h; exact k

theorem tokLitOut_works {b : Byte} {s t : State} (h : tokLitOut b s = .next t) : Works s t := by
  unfold tokLitOut at h
  split at h
  · obtain ⟨g, hg, h⟩ := withEngine_next h
    exact .of_next h (setEngine_works hg (engLitOut_kept b g))
  · exact .of_next h (litOut_quiet b s).works

theorem tokCopyOut_works {off len : Nat} {s t : State} (h : tokCopyOut off len s = .next t) : Works s t := by
  unfold tokCopyOut at h
  split at h
  · obtain ⟨g, hg, h⟩ := withEngine_next h
    obtain ⟨k, hk, h⟩ := ofRead_next h
    exact .of_next h (setEngine_works hg (engCopyOut_kept hk))
  · obtain ⟨u, hu, h⟩ := ofRead_next h
    exact .of_next h (copyOut_quiet hu).works

theorem storeEngine_works {s t : State} {o : Option Engine} {g : Engine} (hg : s.engines[s.actor]? = some g)
    (ho : ∀ k, o = some k → buffers k = buffers g) (h : storeEngine s o = .next t) : Works s t := by
  obtain ⟨k, hk, h⟩ := ofRead_next h
  exact .of_next h (setEngine_works hg (.of_buffers (ho k hk)))

theorem packLit_works {b : Byte} {s t : State} (h : packLit b s = .next t) : Works s t := by
  obtain ⟨g, hg, h⟩ := withEngine_next h
  cases hp : packer s with
  | dfl => simp only [hp] at h; exact storeEngine_works hg (by rintro _ ⟨⟩; exact buffers_dflLit b g) h
  | lz4 => simp only [hp] at h; exact storeEngine_works hg (by rintro _ ⟨⟩; rfl) h
  | snp => simp only [hp] at h; exact storeEngine_works hg (by rintro _ ⟨⟩; rfl) h
  | nobody => simp only [hp] at h; cases h

theorem packMatch_works {off len : Nat} {s t : State} (h : packMatch off len s = .next t) : Works s t := by
  obtain ⟨g, hg, h⟩ := withEngine_next h
  cases hr : matchInRange (matchLimits s) off len with
  | false => cases hp : packer s <;> simp [hp, hr] at h
  | true =>
    cases hp : packer s with
    | dfl =>
      simp only [hp, hr, if_true] at h
      exact storeEngine_works hg (by rintro _ ⟨⟩; exact buffers_dflMatch off len g) h
    | lz4 => simp only [hp, hr, if_true] at h; exact storeEngine_works hg (fun _ => buffers_lz4Match) h
    | snp => simp only [hp, hr, if_true] at h; exact storeEngine_works hg (fun _ => buffers_snpMatch) h
    | nobody => simp only [hp] at h; cases h

theorem packEob_works {s t : State} (h : packEob s = .next t) : Works s t := by
  obtain ⟨g, hg, h⟩ := withEngine_next h
  cases hp : packer s with
  | dfl => simp only [hp] at h; exact storeEngine_works hg (by rintro _ ⟨⟩; exact buffers_dflEob g) h
  | lz4 => simp only [hp] at h; exact storeEngine_works hg (fun _ => buffers_lz4Eob) h
  | snp => simp only [hp] at h; exact storeEngine_works hg (fun _ => buffers_snpEob) h
  | nobody => simp only [hp] at h; cases h

theorem execLit_works {b : Byte} {s t : State} (h : execLit b s = .next t) : Works s t := by
  unfold execLit at h
  split at h
  · exact tokLitOut_works h
  · exact packLit_works h

theorem execMatchTok_works {off : BitVec 17} {len : BitVec 16} {s t : State}
    (h : execMatchTok off len s = .next t) : Works s t := by
  unfold execMatchTok at h
  split at h
  · exact tokCopyOut_works h
  · exact packMatch_works h

theorem execEob_works {s t : State} (h : execEob s = .next t) : Works s t := by
  unfold execEob at h
  split at h
  · exact .of_next h (Quiet.refl s).works
  · exact packEob_works h

theorem blockEnd_works (s : State) : Works s (blockEnd s) := by
  unfold blockEnd
  split
  · refine .of_running rfl ?_
    show WindowKept s.unp (alignIn s.unp)
    unfold alignIn
    split <;> exact .of_same
  · exact Quiet.works .of_same

theorem execDflStoredBody_works {len nlen : BitVec 16} {data : List Byte} {s t : State}
    (h : execDflStoredBody len nlen data s = .next t) : Works s t := by
  refine .of_next h ?_
  split
  · exact .after (litsOut_quiet data s) (blockEnd_works _)
  · exact raiseSeq_works _ s

theorem execDflDynHeader_works {hlit hdist : BitVec 5} {hclen : BitVec 4} {cl : List (BitVec 3)} {s t : State}
    (h : execDflDynHeader hlit hdist hclen cl s = .next t) : Works s t := by
  unfold execDflDynHeader at h
  dsimp only at h
  split at h
  · exact .of_next h (.after .of_same (raiseSeq_works _ _))
  · split at h
    · exact .of_next h (.after .of_same (raiseSeq_works _ _))
    · exact .of_next h (Quiet.works .of_same)

theorem lengthSym_works {n e : Nat} {s t : State} (h : lengthSym n e s = .next t) : Works s t :=
  .of_next h (Quiet.works .of_same)

theorem distanceSym_works {n e : Nat} {s t : State} (h : distanceSym n e s = .next t) : Works s t := by
  unfold distanceSym at h
  dsimp only at h
  split at h
  · exact .of_next h (raiseSeq_works _ s)
  · split at h
    · exact .of_next h (raiseSeq_works _ s)
    · obtain ⟨u, hu, h⟩ := ofRead_next h
      exact .of_next h (.after (copyOut_quiet hu) (Quiet.works .of_same))

theorem finishLens_works (s : State) : Works s (finishLens s) := by
  unfold finishLens
  dsimp only
  split
  · exact .after .of_same (raiseSeq_works _ _)
  · split
    · exact .after .of_same (raiseSeq_works _ _)
    · split
      · exact .after .of_same (raiseSeq_works _ _)
      · exact Quiet.works .of_same

theorem appendLens_works (v : BitVec 4) (n : Nat) (s : State) : Works s (appendLens v n s) := by
  unfold appendLens
  dsimp only
  split
  · exact .after .of_same (finishLens_works _)
  · exact Quiet.works .of_same

theorem repeatLens_works (v : BitVec 4) (n : Nat) (s : State) : Works s (repeatLens v n s) := by
  unfold repeatLens
  split
  · exact raiseSeq_works _ s
  · exact appendLens_works v n s

theorem execClRepPrev_works {e : BitVec 2} {s t : State} (h : execClRepPrev e s = .next t) : Works s t := by
  unfold execClRepPrev at h
  split at h
  · exact .of_next h (raiseSeq_works _ s)
  · exact .of_next h (repeatLens_works _ _ s)

theorem beginBody_works (w : Want) (s : State) : Works s (beginBody w s) := .of_running

theorem execZlibHeader_works {cmf flg : Byte} {s t : State} (h : execZlibHeader cmf flg s = .next t) : Works s t := by
  unfold execZlibHeader at h
  split at h
  · exact .of_next h (raiseSeq_works _ s)
  · exact .of_next h (beginBody_works _ s)

/-- A comparison of the stream: passed, with another element wanted, or a failure (R284, R289, R330). -/
theorem compared_works (p : Prop) [Decidable p] (w : Want) (d : Detail) (s : State) :
    Works s (if p then { s with want := w } else raiseSeq d s) := by
  split
  · exact Quiet.works .of_same
  · exact raiseSeq_works d s

theorem execGzipHeader_works {id1 id2 cm flg xfl os : Byte} {mtime : Word} {extra name comment : Option (List Byte)}
    {crc16 : Option (BitVec 16)} {s t : State}
    (h : execGzipHeader id1 id2 cm flg mtime xfl os extra name comment crc16 s = .next t) : Works s t := by
  unfold execGzipHeader at h
  split at h
  · exact .of_next h (raiseSeq_works _ s)
  · split at h
    · split at h
      · exact .of_next h (raiseSeq_works _ s)
      · refine .of_next h ?_
        split
        · exact beginBody_works _ s
        · exact raiseSeq_works _ s
    · exact .of_next h (beginBody_works _ s)

theorem execGzipTrailer_works {crc : Word} {isize : Option Word} {s t : State}
    (h : execGzipTrailer crc isize s = .next t) : Works s t := by
  unfold execGzipTrailer at h
  split at h
  · split at h
    · exact .of_next h (raiseSeq_works _ s)
    · exact .of_next h (compared_works _ _ _ s)
  · exact .of_next h (raiseSeq_works _ s)

theorem lz4DescEnd_works (flg hc : Byte) (s : State) : Works s (lz4DescEnd flg hc s) := by
  unfold lz4DescEnd
  split
  · exact raiseSeq_works _ s
  · split
    · exact raiseSeq_works _ s
    · split
      · exact raiseSeq_works _ s
      · exact .of_running

theorem execLz4Descriptor_works {flg : Byte} {bd : Option Byte} {csize : Option (BitVec 64)} {dict : Option Word}
    {hc : Option Byte} {s t : State} (h : execLz4Descriptor flg bd csize dict hc s = .next t) : Works s t := by
  unfold execLz4Descriptor at h
  split at h
  · exact .of_next h (raiseSeq_works _ s)
  · split at h
    · exact .of_next h (raiseSeq_works _ s)
    · split at h
      · exact .of_next h (raiseSeq_works _ s)
      · dsimp only at h
        split at h
        · exact .of_next h (.after .of_same (raiseSeq_works _ _))
        · exact .of_next h (.after .of_same (lz4DescEnd_works _ _ _))

theorem lz4Block_works {st : Bool} {size : BitVec 31} {data : List Byte} {ck : Option Word} {s t : State}
    (h : lz4Block st size data ck s = .next t) : Works s t := by
  unfold lz4Block at h
  split at h
  · exact .of_next h (raiseSeq_works _ s)
  · split at h
    · exact .of_next h (raiseSeq_works _ s)
    · split at h
      · cases h
      · exact .of_next h (Quiet.works .of_same)

theorem execLz4Sequence_works {lits : List Byte} {mat : Option (BitVec 16 × Nat)} {s t : State}
    (h : execLz4Sequence lits mat s = .next t) : Works s t := by
  obtain ⟨g, hg, h⟩ := withEngine_next h
  obtain ⟨k, hk, h⟩ := ofRead_next h
  exact .of_next h (setEngine_works hg (seqEngine_kept hk))

theorem execLz4LastSequence_works {lits : List Byte} {s t : State}
    (h : execLz4LastSequence lits s = .next t) : Works s t := by
  obtain ⟨g, hg, h⟩ := withEngine_next h
  split at h
  · exact .of_next h (setEngine_works hg (.of_buffers rfl))
  · rename_i k hk
    exact .of_next h (setEngine_works hg ((seqLits_kept hk).trans (.of_buffers rfl)))

theorem execSnpPreamble_works {bs : List Byte} {s t : State} (h : execSnpPreamble bs s = .next t) : Works s t := by
  unfold execSnpPreamble at h
  split at h
  · exact .of_next h (raiseSeq_works _ s)
  · exact .of_next h (.of_running rfl .of_empty)

theorem execSnpLiteral_works {m : BitVec 6} {ext data : List Byte} {s t : State}
    (h : execSnpLiteral m ext data s = .next t) : Works s t := by
  unfold execSnpLiteral at h
  split at h
  · exact .of_next h (raiseSeq_works _ s)
  · exact .of_next h (litsOut_quiet data s).works

theorem snpCopy_works {off len : Nat} {s t : State} (h : snpCopy off len s = .next t) : Works s t := by
  unfold snpCopy at h
  split at h
  · exact .of_next h (raiseSeq_works _ s)
  · split at h
    · exact .of_next h (raiseSeq_works _ s)
    · split at h
      · exact .of_next h (raiseSeq_works _ s)
      · obtain ⟨u, hu, h⟩ := ofRead_next h
        exact .of_next h (copyOut_quiet hu).works

/-! ### Every element -/

/-- Is the element one that a host or a port gives at any time: a command, a field of `CFG`, or a beat? -/
def isOuter (i : Instr) : Bool :=
  i.format == .cmdFmt || i.format == .cfgFmt || i.format == .beatFmt

/-- The elements of a session's streams, tokens and blocks do the work of a session. -/
theorem exec_works {i : Instr} {s t : State} (hi : isOuter i = false) (h : exec i s = .next t) : Works s t := by
  cases i with
  | nop | startCompress | startDecompress | cancel | softReset | cmdReserved5 | cmdReserved6to7 lo
  | cmdReserved8to15 lo | cfgCodecDeflate | cfgCodecZlib | cfgCodecGzip | cfgCodecLz4 | cfgCodecSnappy | cfgCodecZstd
  | cfgCodecReserved lo | cfgCkselNone | cfgCkselCrc32 | cfgCkselAdler32 | cfgCkselReserved3 | cfgTreeStored
  | cfgTreeFixed | cfgTreeDynamic | cfgTreeReserved3 | cfgLazy0 | cfgLazy1 | cfgIomodeBuffer | cfgIomodeStream
  | beatData b | beatDataLast b | beatEndEmpty => cases hi
  | lit b => exact execLit_works h
  | matchTok off len => exact execMatchTok_works h
  | eob => exact execEob_works h
  | tokenReserved x => cases h
  | dflBlockStored f | dflBlockFixed f | dflBlockDynamic f => exact .of_next h (Quiet.works .of_same)
  | dflBlockReserved f => exact .of_next h (.after .of_same (raiseSeq_works _ _))
  | dflStoredBody len nlen data => exact execDflStoredBody_works h
  | dflDynHeader hlit hdist hclen cl => exact execDflDynHeader_works h
  | llLiteral b => exact .of_next h (litOut_quiet b s).works
  | llEob => exact .of_next h (blockEnd_works s)
  | llLen257 | llLen258 | llLen259 | llLen260 | llLen261 | llLen262 | llLen263 | llLen264 | llLen265 e | llLen266 e
  | llLen267 e | llLen268 e | llLen269 e | llLen270 e | llLen271 e | llLen272 e | llLen273 e | llLen274 e | llLen275 e
  | llLen276 e | llLen277 e | llLen278 e | llLen279 e | llLen280 e | llLen281 e | llLen282 e | llLen283 e | llLen284 e
  | llLen285 => exact lengthSym_works h
  | llIllegal lo | dIllegal lo => exact .of_next h (raiseSeq_works _ s)
  | dDist0 | dDist1 | dDist2 | dDist3 | dDist4 e | dDist5 e | dDist6 e | dDist7 e | dDist8 e | dDist9 e | dDist10 e
  | dDist11 e | dDist12 e | dDist13 e | dDist14 e | dDist15 e | dDist16 e | dDist17 e | dDist18 e | dDist19 e
  | dDist20 e | dDist21 e | dDist22 e | dDist23 e | dDist24 e | dDist25 e | dDist26 e
  | dDist27 e | dDist28 e | dDist29 e =>
    exact distanceSym_works h
  | clLen0 | clLen1 | clLen2 | clLen3 | clLen4 | clLen5 | clLen6 | clLen7 | clLen8 | clLen9 | clLen10 | clLen11
  | clLen12 | clLen13 | clLen14 | clLen15 => exact .of_next h (appendLens_works _ _ s)
  | clRepPrev e => exact execClRepPrev_works h
  | clRepZeroShort e | clRepZeroLong e => exact .of_next h (repeatLens_works _ _ s)
  | zlibHeader cmf flg => exact execZlibHeader_works h
  | zlibTrailer v | lz4ContentChecksum v => exact .of_next h (compared_works _ _ _ s)
  | gzipHeader id1 id2 cm flg mtime xfl os extra name comment crc16 => 
    exact execGzipHeader_works (mtime := mtime) (xfl := xfl) (os := os) (extra := extra) (name := name)
      (comment := comment) h
  | gzipTrailer crc isize => exact execGzipTrailer_works h
  | lz4Magic | lz4Endmark => exact .of_next h (Quiet.works .of_same)
  | lz4MagicSkippable lo => exact .of_next h (raiseSeq_works _ s)
  | lz4Descriptor flg bd csize dict hc => exact execLz4Descriptor_works (dict := dict) h
  | lz4BlockCompressed size data ck | lz4BlockStored size data ck => exact lz4Block_works h
  | lz4Sequence lits mat => exact execLz4Sequence_works h
  | lz4LastSequence lits => exact execLz4LastSequence_works h
  | snpPreamble bs => exact execSnpPreamble_works h
  | snpLiteral m ext data => exact execSnpLiteral_works h
  | snpCopy1 l o | snpCopy2 l o | snpCopy4 l o => exact snpCopy_works h

/-- What an element can do: those of a session's streams come in a running session only (R387, R391). -/
theorem exec_move {i : Instr} {s t : State} (hi : isOuter i = false → busy s = true)
    (h : exec i s = .next t) : Move s t := by
  cases ho : isOuter i with
  | false => exact .work (hi ho) (exec_works ho h)
  | true =>
    cases i with
    | nop | cmdReserved5 | cmdReserved6to7 lo | cmdReserved8to15 lo => cases h; exact .quiet (.refl s)
    | startCompress | startDecompress => exact startCommand_move h
    | cancel => exact execCancel_move h
    | softReset => cases h; exact .reset s (.refl s) rfl
    | cfgCodecDeflate | cfgCodecZlib | cfgCodecGzip | cfgCodecLz4 | cfgCodecSnappy | cfgCodecZstd
    | cfgCodecReserved lo => exact setCfg_move .codec _ h
    | cfgCkselNone | cfgCkselCrc32 | cfgCkselAdler32 | cfgCkselReserved3 => exact setCfg_move .cksel _ h
    | cfgTreeStored | cfgTreeFixed | cfgTreeDynamic | cfgTreeReserved3 => exact setCfg_move .treeMode _ h
    | cfgLazy0 | cfgLazy1 => exact setCfg_move .isLazy _ h
    | cfgIomodeBuffer | cfgIomodeStream => exact setCfg_move .iomode _ h
    | beatData b | beatDataLast b => exact .quiet (takeBeat_quiet h)
    | beatEndEmpty => exact .quiet (execBeatEndEmpty_quiet h)
    | _ => cases ho

/-! ### What a turn comes to -/

/-- A turn's element comes with nothing changed but the place it was read from, and one of a session's streams comes in
a running session; a turn without an element is a move. -/
def FetchSound (s : State) : Fetched → Prop
  | .elem i s' => Quiet s s' ∧ s'.regs = s.regs ∧ (isOuter i = false → busy s = true)
  | .act t => Move s t
  | .fault _ => True
  | .refuse _ => True

theorem beatElem_isOuter {b : Beat} {i : Instr} (h : beatElem b = some i) : isOuter i = true := by
  unfold beatElem at h
  split at h <;> cases h <;> rfl

theorem intakeTurn_sound {s : State} {f : Fetched} (h : intakeTurn s = some f) : FetchSound s f := by
  unfold intakeTurn at h
  split at h
  · split at h
    · cases h
    · split at h
      · cases h; trivial
      · rename_i i hi
        cases h
        exact ⟨.of_same, rfl, fun hf => by rw [beatElem_isOuter hi] at hf; cases hf⟩
  · cases h

theorem dispatcherTurn_sound {s : State} {f : Fetched} (h : dispatcherTurn s = some f) : FetchSound s f := by
  unfold dispatcherTurn at h
  split at h
  · rename_i hb
    split at h
    · cases h
    · split at h
      · cases h; trivial
      · rename_i g hg
        split at h
        · cases h
          exact .work hb (.of_engine hg (loadUnit_kept _ _ _ g))
        · cases h
  · cases h

theorem collectDone_works {e : Nat} {g : Engine} {s : State} (hg : s.engines[e]? = some g) :
    Works s (collectDone e g s) := by
  have written : ∀ s1, Quiet s s1 → s1.engines = s.engines → Works s (setEngine e (idleEngine g)
      { emit g.result.bytes s1 with
        regs := { s1.regs with blockCount := s1.regs.blockCount + 1 }, nextCollect := s1.nextCollect + 1 }) :=
    fun s1 h1 he => by
      refine .after ((h1.trans (emit_quiet g.result.bytes s1)).trans (.of_same (hc := ?_)))
        (setEngine_works (g := g) ?_ (.of_buffers rfl))
      · simp
      · simpa [he] using hg
  unfold collectDone
  cases s.dir with
  | compress => exact written s (.refl s) rfl
  | decompress => exact written _ ((ckTake_quiet g.result.bytes s).trans .of_same) (ckTake_engines _ s)

theorem collectorTurn_sound {s : State} {f : Fetched} (h : collectorTurn s = some f) : FetchSound s f := by
  unfold collectorTurn at h
  split at h
  · rename_i hb
    split at h
    · cases h; exact .work hb.1 (cancelSession_works s)
    · split at h
      · cases h
      · split at h
        · cases h
        · rename_i g hg
          split at h
          · split at h
            · cases h; exact .work hb.1 (collectDone_works hg)
            · cases h; exact .work hb.1 (failWith_works _ _ _ _ s)
            · cases h
            · cases h
          · cases h
  · cases h

theorem engineAct_sound {e : Nat} {g : Engine} {s : State} {o : Option Engine} (hb : busy s = true)
    (hg : s.engines[e]? = some g) (ho : ∀ h, o = some h → EngineKept g h) : FetchSound s (engineAct e s o) := by
  cases o with
  | none => trivial
  | some h => exact .work hb (setEngine_works hg (ho h rfl))

/-- An engine moves its cursor in `TOKBUF` or in its block before its element is executed (R42, R325). -/
theorem setEngine_quiet {e : Nat} {g h : Engine} {s : State} (hg : s.engines[e]? = some g) (hk : EngineKept g h)
    (hst : h.st = g.st) : Quiet s { setEngine e h s with actor := e } :=
  have kept : Keeps s { setEngine e h s with actor := e } := .of_parts .of_same (.of_set hg hk) (fun h => h)
  { kept with
    scfg := rfl
    cfg := rfl
    busy := rfl
    idle := fun hi k hm => by
      rcases List.mem_or_eq_of_mem_set hm with hm | rfl
      · exact hi k hm
      · rw [hst]; exact hi g (List.mem_of_getElem? hg) }

theorem tokenTurn_sound {e : Nat} {g : Engine} {s : State} (hb : busy s = true) (hg : s.engines[e]? = some g) :
    FetchSound s (tokenTurn e g s) := by
  unfold tokenTurn
  split
  · trivial
  · split
    · exact ⟨setEngine_quiet hg (.of_buffers rfl) rfl, rfl, fun _ => hb⟩
    · trivial

theorem sequenceTurn_sound {e : Nat} {g : Engine} {s : State} (hb : busy s = true) (hg : s.engines[e]? = some g) :
    FetchSound s (sequenceTurn e g s) := by
  unfold sequenceTurn
  split
  · trivial
  · split
    · exact ⟨setEngine_quiet hg (.of_buffers rfl) rfl, rfl, fun _ => hb⟩
    · exact .work hb (setEngine_works hg (.of_buffers rfl))
    · exact .work hb (setEngine_works hg (.of_buffers rfl))
    · trivial

theorem engineTurn_sound {e : Nat} {s : State} {f : Fetched} (h : engineTurn e s = some f) : FetchSound s f := by
  unfold engineTurn at h
  split at h
  · cases h
  · rename_i g hg
    split at h
    · rename_i hb
      split at h <;> cases h
      · exact engineAct_sound hb.1 hg fun _ => engineStart_kept
      · exact engineAct_sound hb.1 hg fun _ hk => .of_buffers (buffers_tokeniseStep hk)
      · exact tokenTurn_sound hb.1 hg
      · exact tokenTurn_sound hb.1 hg
      · exact sequenceTurn_sound hb.1 hg
    · cases h

theorem compressTurn_sound {s : State} {f : Fetched} (hb : busy s = true) (h : compressTurn s = some f) :
    FetchSound s f := by
  unfold compressTurn at h
  split at h
  · split at h
    · cases h; exact .work hb (failSession_works _ s)
    · split at h
      · cases h
      · cases h; exact .work hb (.after (emit_quiet _ s) .of_running)
  · split at h
    · cases h; exact .work hb .of_running
    · cases h
  · cases h; exact .work hb (.after (emit_quiet _ s) (completeSession_works _))
  · cases h
  · cases h
  · cases h
  · cases h

theorem readElem_sound {c : Ctx} {s : State} {f : Fetched} (hb : busy s = true) (h : readElem c s = some f) :
    FetchSound s f := by
  unfold readElem at h
  split at h
  · cases h; exact ⟨.of_same, rfl, fun _ => hb⟩
  · split at h
    · cases h; exact .work hb (raiseSeq_works _ s)
    · cases h
  · cases h; exact .work hb (raiseSeq_works _ s)
  · cases h; trivial

theorem lz4Drained_works {s : State} (hb : busy s = true) : Works s (lz4Drained s) := by
  unfold lz4Drained
  dsimp only
  split
  · exact .after (.of_same (t := { s with phase := .trailer }) (hb := hb.symm)) (failSession_works _ _)
  · split <;> exact .of_running

theorem trailingTurn_sound {s : State} {f : Fetched} (hb : busy s = true) (h : trailingTurn s = some f) :
    FetchSound s f := by
  unfold trailingTurn at h
  split at h
  · cases h; exact .work hb (raiseSeq_works _ s)
  · split at h
    · cases h; exact .work hb (completeSession_works s)
    · cases h

theorem decompressTurn_sound {s : State} {f : Fetched} (hb : busy s = true) (h : decompressTurn s = some f) :
    FetchSound s f := by
  unfold decompressTurn at h
  split at h
  · cases h; exact .work hb (cancelSession_works s)
  · split at h
    · split at h
      · cases h; exact .work hb (failSession_works _ s)
      · cases h
    · split at h
      · cases h; exact .work hb .of_running
      · split at h
        · split at h
          · cases h; exact .work hb (lz4Drained_works hb)
          · cases h
        · split at h
          · exact trailingTurn_sound hb h
          · split at h
            · cases h; exact .work hb .of_running
            · split at h
              · cases h
              · exact readElem_sound hb h

theorem sequencerTurn_sound {s : State} {f : Fetched} (h : sequencerTurn s = some f) : FetchSound s f := by
  unfold sequencerTurn at h
  split at h
  · rename_i hb
    split at h
    · exact compressTurn_sound hb h
    · exact decompressTurn_sound hb h
  · cases h

theorem agentTurn_sound {a : Agent} {s : State} {f : Fetched} (h : agentTurn a s = some f) : FetchSound s f := by
  cases a with
  | collector => exact collectorTurn_sound h
  | engine e => exact engineTurn_sound h
  | dispatcher => exact dispatcherTurn_sound h
  | sequencer => exact sequencerTurn_sound h
  | intake => exact intakeTurn_sound h

theorem firstEnabled_sound (s : State) (as : List Agent) : FetchSound s (firstEnabled s as) := by
  induction as with
  | nil => exact .quiet (.refl s)
  | cons a as ih =>
    unfold firstEnabled
    split
    · rename_i f hf; exact agentTurn_sound hf
    · exact ih

theorem cmdInstr_isOuter (v : Nat) : isOuter (cmdInstr v) = true := by
  unfold cmdInstr
  split
  case h_7 => split <;> rfl
  all_goals rfl

theorem cfgInstr_isOuter (f : CfgField) (v : Nat) : isOuter (cfgInstr f v) = true := by
  unfold cfgInstr
  split <;> split <;> rfl

theorem elem_outer_sound {i : Instr} (h : isOuter i = true) (s : State) : FetchSound s (.elem i s) :=
  ⟨.refl s, rfl, fun hf => by rw [h] at hf; cases hf⟩

theorem hostTurn_sound (op : HostOp) (s : State) : FetchSound s (hostTurn op s) := by
  cases op with
  | write width off v =>
    unfold hostTurn
    dsimp only
    split
    · unfold regWrite
      split
      · exact elem_outer_sound (cmdInstr_isOuter _) s
      · exact .quiet .of_same
      · exact .quiet .of_same
      · exact .quiet .of_same
      · exact .quiet .of_same
      · exact .quiet (.refl s)
    · trivial
  | read width off =>
    unfold hostTurn
    dsimp only
    split
    · exact .quiet .of_same
    · trivial
  | send b => exact .quiet .of_same
  | take =>
    unfold hostTurn
    dsimp only
    split <;> exact .quiet .of_same
  | reset => exact .reset s (.refl s) rfl

theorem turnFetch_sound (t : Turn) (s : State) : FetchSound s (turnFetch t s) := by
  cases t with
  | core => exact firstEnabled_sound s _
  | agent a =>
    unfold turnFetch
    dsimp only
    split
    · rename_i f hf; exact agentTurn_sound hf
    · exact .quiet (.refl s)
  | host op => exact hostTurn_sound op s
  | cfgField f v => exact elem_outer_sound (cfgInstr_isOuter f _) s

/-- A turn taken from the agenda changes nothing else. -/
theorem FetchSound.of_agenda {s : State} {rest : List Turn} {f : Fetched}
    (h : FetchSound { s with agenda := rest } f) : FetchSound s f := by
  have q : Quiet s { s with agenda := rest } := .of_same
  cases f with
  | elem i s' => exact ⟨q.trans h.1, h.2.1, h.2.2⟩
  | act t => exact Move.after q rfl h
  | fault r => trivial
  | refuse r => trivial

theorem fetch_sound (s : State) : FetchSound s (fetch s) := by
  unfold fetch
  split
  · exact turnFetch_sound .core s
  · exact .of_agenda (turnFetch_sound _ _)

/-- What a step can do: every step that answers a next state is one of the moves. -/
theorem step_move {s t : State} (h : step s = .next t) : Move s t := by
  have hf := fetch_sound s
  unfold step at h
  split at h
  · rename_i i s' he
    rw [he] at hf
    obtain ⟨hq, hr, ho⟩ := hf
    exact .after hq hr (exec_move (fun hi => hq.busy.trans (ho hi)) h)
  · rename_i u he
    rw [he] at hf
    cases h
    exact hf
  · cases h
  · cases h

end Sys2Proof.Proofs


/-! PROOFS. The invariants of every step (O56, O58, O59) and of the reset state (O60), from `step_move`. -/

namespace Sys2Proof.Proofs

open Machine Safety Laws

/-! ### The bits of `CFG` after a field write (R30, R95) -/

/-- Exchange of `w` bits at bit `lo` of a number. -/
theorem testBit_exchange (n lo w v k : Nat) :
    (n - n / 2 ^ lo % 2 ^ w * 2 ^ lo + v % 2 ^ w * 2 ^ lo).testBit k =
      if lo ≤ k ∧ k < lo + w then v.testBit (k - lo) else n.testBit k := by
  have hsplit : n - n / 2 ^ lo % 2 ^ w * 2 ^ lo + v % 2 ^ w * 2 ^ lo =
      2 ^ lo * (2 ^ w * (n / 2 ^ lo / 2 ^ w) + v % 2 ^ w) + n % 2 ^ lo := by
    have h1 := Nat.div_add_mod n (2 ^ lo)
    have h2 := Nat.div_add_mod (n / 2 ^ lo) (2 ^ w)
    have h3 : n = 2 ^ lo * (2 ^ w * (n / 2 ^ lo / 2 ^ w)) + 2 ^ lo * (n / 2 ^ lo % 2 ^ w) + n % 2 ^ lo := by
      rw [← Nat.mul_add, h2, h1]
    rw [Nat.mul_add, Nat.mul_comm (n / 2 ^ lo % 2 ^ w), Nat.mul_comm (v % 2 ^ w)]
    omega
  rw [hsplit, Nat.testBit_two_pow_mul_add _ (Nat.mod_lt _ (Nat.two_pow_pos lo))]
  by_cases h1 : k < lo
  · rw [if_pos h1, if_neg (by omega), Nat.testBit_mod_two_pow]
    simp [h1]
  · rw [if_neg h1, Nat.testBit_two_pow_mul_add _ (Nat.mod_lt _ (Nat.two_pow_pos w))]
    by_cases h2 : k - lo < w
    · rw [if_pos h2, if_pos (by omega), Nat.testBit_mod_two_pow]
      simp [h2]
    · rw [if_neg h2, if_neg (by omega), Nat.testBit_div_two_pow, Nat.testBit_div_two_pow,
        show k - lo - w + w + lo = k by omega]

theorem setCfg_getLsbD (lo w v : Nat) (s : State) {k : Nat} (hk : k < 32) :
    (setCfg lo w v s).regs.cfg.getLsbD k =
      if lo ≤ k ∧ k < lo + w then v.testBit (k - lo) else s.regs.cfg.getLsbD k := by
  have h := testBit_exchange s.regs.cfg.toNat lo w v k
  simp only [setCfg, fieldOf, BitVec.getLsbD_ofNat, hk, decide_true, Bool.true_and, h]
  rfl

/-- A field lies outside the reserved bits of `CFG` (R30). -/
theorem reservedMask_field (f : CfgField) {k : Nat} (hk : k < 32) (hr : (0xFFFFCCC8#32).getLsbD k = true) :
    ¬ (f.pos ≤ k ∧ k < f.pos + f.width) := by
  have all : ∀ j : Fin 32, (0xFFFFCCC8#32).getLsbD j = true → ¬ (f.pos ≤ j.val ∧ j.val < f.pos + f.width) := by
    cases f <;> decide
  exact all ⟨k, hk⟩ hr

theorem cfgReservedZero_iff (s : State) :
    cfgReservedZero s = true ↔ ∀ k < 32, (0xFFFFCCC8#32).getLsbD k = true → s.regs.cfg.getLsbD k = false := by
  simp only [cfgReservedZero, beq_iff_eq]
  constructor
  · intro h k _ hr
    have hz : (s.regs.cfg &&& 0xFFFFCCC8#32).getLsbD k = false := by rw [h]; exact BitVec.getLsbD_zero
    simpa [BitVec.getLsbD_and, hr] using hz
  · intro h
    refine BitVec.eq_of_getLsbD_eq fun k hk => ?_
    rw [BitVec.getLsbD_and]
    cases hr : (0xFFFFCCC8#32).getLsbD k with
    | false => simp
    | true => simp [h k hk hr]

theorem setCfg_reservedZero (f : CfgField) (v : Nat) {s : State} (h : cfgReservedZero s = true) :
    cfgReservedZero (setCfg f.pos f.width v s) = true := by
  rw [cfgReservedZero_iff] at h ⊢
  intro k hk hr
  rw [setCfg_getLsbD _ _ _ _ hk, if_neg (reservedMask_field f hk hr)]
  exact h k hk hr

theorem setCfg_keeps (lo w v : Nat) (s : State) : Keeps s (setCfg lo w v s) :=
  .of_parts .of_same .of_same fun h => h

/-! ### The reset state -/

theorem windowFilled_of_produced_zero {u : Unpacker} (h : u.produced = 0) : WindowFilled u :=
  fun a ha => by simp [h] at ha

theorem blockFilled_of_blklen_zero {g : Engine} (h : g.blklen = 0) : BlockFilled g :=
  fun a ha => by simp [h] at ha

theorem reset_buffersFilled (p : Params) : BuffersFilled (State.resetWith p) := by
  refine ⟨windowFilled_of_produced_zero rfl, fun g hg => ?_⟩
  obtain rfl := List.eq_of_mem_replicate hg
  exact ⟨windowFilled_of_produced_zero rfl, blockFilled_of_blklen_zero rfl⟩

theorem reset_memWf (p : Params) : memWf (State.resetWith p) = true := by
  simp only [memWf, Bool.and_eq_true, List.all_eq_true]
  refine ⟨rfl, fun g hg => ?_⟩
  obtain rfl := List.eq_of_mem_replicate hg
  rfl

theorem reset_poolComplete (p : Params) : poolComplete (State.resetWith p) = true := by
  simp [poolComplete, State.resetWith]

theorem reset_allIdle (p : Params) : AllIdle (State.resetWith p) := by
  intro g hg
  obtain rfl := List.eq_of_mem_replicate hg
  rfl

theorem reset_adlerReduced (p : Params) : adlerReduced (State.resetWith p) = true :=
  (by decide : decide (adlerA 1 < 65521 ∧ adlerB 1 < 65521) = true)

theorem reset_cfgReservedZero (p : Params) : cfgReservedZero (State.resetWith p) = true :=
  (by decide : ((0x00000200#32 &&& 0xFFFFCCC8#32) == 0) = true)

theorem resetMachine_keeps (s : State) : Keeps s (resetMachine s) where
  params := rfl
  adler _ := reset_adlerReduced s.params
  pool _ := reset_poolComplete s.params
  memory _ := reset_memWf s.params
  filled _ := reset_buffersFilled s.params

/-! ### The obligations on every step -/

theorem Move.keeps {s t : State} (m : Move s t) : Keeps s t := by
  cases m with
  | quiet h => exact h.toKeeps
  | work _ h => exact h.toKeeps
  | config f v s' h ht => exact ht ▸ h.toKeeps.trans (setCfg_keeps _ _ v s')
  | reset s' h ht => exact ht ▸ h.toKeeps.trans (resetMachine_keeps s')
  | start d s' _ h _ ht => exact ht ▸ h.toKeeps.trans (startSession_keeps d s')

/-- What a start command leaves: a session with a sound configuration, or a failed session with every engine idle. -/
theorem startSession_outcome (d : Dir) (s : State) :
    (busy (startSession d s) = true ∧ (startSession d s).scfg = sampleCfg s.regs ∧
      cfgCheck (startSession d s).params (startSession d s).scfg = none) ∨
    (busy (startSession d s) = false ∧ AllIdle (startSession d s)) := by
  obtain ⟨hc, h⟩ | ⟨e, _, h⟩ := startSession_cases d s
  · rw [h]; exact .inl ⟨rfl, rfl, hc⟩
  · have hb : busy (startSession d s) = false := by rw [h]; rfl
    have hi := (failSession_works e (initSession d s)).pooled rfl
    rw [← h, idleOutside_iff] at hi
    exact .inr ⟨hb, hi hb⟩

theorem startSession_cfg (d : Dir) (s : State) : (startSession d s).regs.cfg = s.regs.cfg := by
  obtain ⟨_, h⟩ | ⟨e, _, h⟩ := startSession_cases d s
  · rw [h]; rfl
  · rw [h]; exact (failSession_works e (initSession d s)).cfg

theorem Move.scfg_of_busy {s t : State} (m : Move s t) (hs : busy s = true) (ht : busy t = true) : t.scfg = s.scfg := by
  cases m with
  | quiet h => exact h.scfg
  | work _ h => exact h.scfg
  | config f v s' h e => subst e; exact h.scfg
  | reset s' h e => subst e; cases ht
  | start d s' hb => rw [hb] at hs; cases hs

/-- Only a start command leads from outside a session into one. -/
theorem Move.started {s t : State} (m : Move s t) (hs : busy s = false) (ht : busy t = true) :
    ∃ d s', s'.regs = s.regs ∧ t = startSession d s' := by
  cases m with
  | quiet h => rw [h.busy, hs] at ht; cases ht
  | work hb => rw [hb] at hs; cases hs
  | config f v s' h e =>
    subst e
    have hb : busy s' = true := ht
    rw [h.busy, hs] at hb; cases hb
  | reset s' h e => subst e; cases ht
  | start d s' _ _ hr e => exact ⟨d, s', hr, e⟩

/-- A session that begins has the registers as they stand for its configuration, and they passed the check (R40). -/
theorem Move.begun {s t : State} (m : Move s t) (hs : busy s = false) (ht : busy t = true) :
    t.scfg = sampleCfg s.regs ∧ cfgCheck t.params t.scfg = none := by
  obtain ⟨d, s', hr, rfl⟩ := m.started hs ht
  obtain ⟨_, hc, hk⟩ | ⟨hb, _⟩ := startSession_outcome d s'
  · exact ⟨hr ▸ hc, hk⟩
  · rw [hb] at ht; cases ht

theorem cfgSound_iff (s : State) : cfgSound s = true ↔ (busy s = true → cfgCheck s.params s.scfg = none) := by
  cases h : busy s <;> simp [cfgSound, h]

theorem Move.keeps_cfgSound {s t : State} (m : Move s t) (h : cfgSound s = true) : cfgSound t = true := by
  rw [cfgSound_iff] at h ⊢
  intro ht
  cases hs : busy s with
  | true => rw [m.keeps.params, m.scfg_of_busy hs ht]; exact h hs
  | false => exact (m.begun hs ht).2

theorem Move.keeps_cfgReservedZero {s t : State} (m : Move s t) (h : cfgReservedZero s = true) :
    cfgReservedZero t = true := by
  have same : ∀ u : State, u.regs.cfg = s.regs.cfg → cfgReservedZero u = true := fun u hu => by
    rw [cfgReservedZero, hu]; exact h
  cases m with
  | quiet q => exact same t q.cfg
  | work _ w => exact same t w.cfg
  | config f v s' q e => subst e; exact setCfg_reservedZero f v (same s' q.cfg)
  | reset s' q e => subst e; exact reset_cfgReservedZero s'.params
  | start d s' _ q _ e => subst e; exact same _ ((startSession_cfg d s').trans q.cfg)

theorem Quiet.keeps_idleOutside {s t : State} (q : Quiet s t) (h : idleOutside s = true) : idleOutside t = true := by
  rw [idleOutside_iff] at h ⊢
  exact fun ht => q.idle (h (q.busy ▸ ht))

theorem Move.keeps_idleOutside {s t : State} (m : Move s t) (h : idleOutside s = true) : idleOutside t = true := by
  cases m with
  | quiet q => exact q.keeps_idleOutside h
  | work hb w => exact w.pooled hb
  | config f v s' q e => subst e; exact q.keeps_idleOutside h
  | reset s' q e => subst e; rw [idleOutside_iff]; exact fun _ => reset_allIdle s'.params
  | start d s' _ q _ e =>
    subst e
    rw [idleOutside_iff]
    intro ht
    obtain ⟨hb, _⟩ | ⟨_, hi⟩ := startSession_outcome d s'
    · rw [hb] at ht; cases ht
    · exact hi

/-- Settles O56: a step is one of the moves, and only a start changes `SCFG` and stays busy. -/
theorem sessionConfigDoesNotChange : Obligations.SessionConfigDoesNotChange := fun _ _ h =>
  have m := step_move h
  ⟨m.scfg_of_busy, fun hs ht => (m.begun hs ht).1, m.keeps_cfgSound⟩

/-- Settles O58: what every move keeps, and what each move does to the reserved bits and the pool. -/
theorem registersAndPoolStaySound : Obligations.RegistersAndPoolStaySound := fun _ _ h =>
  have m := step_move h
  ⟨m.keeps_cfgReservedZero, m.keeps.pool, m.keeps_idleOutside, m.keeps.adler, m.keeps.params⟩

/-- Settles O59: every move keeps the memories and fills the buffers. -/
theorem buffersStaySound : Obligations.BuffersStaySound := fun _ _ h =>
  have m := step_move h
  ⟨m.keeps.memory, m.keeps.filled⟩

/-- Settles O60: nothing is produced or held, no session runs, and the registers have their reset values. -/
theorem resetMeetsTheInvariants : Obligations.ResetMeetsTheInvariants := fun p =>
  ⟨reset_memWf p, reset_cfgReservedZero p, rfl, rfl, reset_poolComplete p,
    (idleOutside_iff _).mpr fun _ => reset_allIdle p, reset_adlerReduced p, reset_buffersFilled p⟩

end Sys2Proof.Proofs


/-! PROOFS. The fields of `CFG` (O21) and of `STATUS` (O50), and the reset values (O20). -/

namespace Sys2Proof.Proofs

open Machine Safety Laws

/-! ### Fields of a register (R30, R35) -/

theorem getLsbD_of_fieldOf {r : Word} {lo w k : Nat} (h1 : lo ≤ k) (h2 : k < lo + w) :
    (fieldOf r lo w).testBit (k - lo) = r.getLsbD k := by
  simp only [fieldOf, Nat.testBit_mod_two_pow, Nat.testBit_div_two_pow, Nat.sub_add_cancel h1, BitVec.getLsbD]
  simp [show k - lo < w by omega]

/-- A field that reads 0 has only bits that are 0. -/
theorem getLsbD_of_fieldOf_zero {r : Word} {lo w k : Nat} (h : fieldOf r lo w = 0) (h1 : lo ≤ k) (h2 : k < lo + w) :
    r.getLsbD k = false := by
  rw [← getLsbD_of_fieldOf h1 h2, h, Nat.zero_testBit]

theorem cfgField_fits (f : CfgField) : f.pos + f.width ≤ 32 := by cases f <;> decide

theorem fieldOf_setCfg {lo w v : Nat} (hf : lo + w ≤ 32) (hv : v < 2 ^ w) (s : State) :
    fieldOf (setCfg lo w v s).regs.cfg lo w = v := by
  refine Nat.eq_of_testBit_eq fun k => ?_
  by_cases hk : k < w
  · have h := getLsbD_of_fieldOf (r := (setCfg lo w v s).regs.cfg) (Nat.le_add_left lo k) (by omega : k + lo < lo + w)
    rw [Nat.add_sub_cancel] at h
    rw [h, setCfg_getLsbD lo w v s (by omega), if_pos (by omega), Nat.add_sub_cancel]
  · rw [Nat.testBit_eq_false_of_lt (Nat.lt_of_lt_of_le hv (Nat.pow_le_pow_right Nat.two_pos (Nat.le_of_not_lt hk)))]
    simp [fieldOf, Nat.testBit_mod_two_pow, hk]

/-- The element of a field value writes that value (R95). -/
theorem exec_cfgInstr (f : CfgField) {v : Nat} (hv : v < 2 ^ f.width) (s : State) :
    exec (cfgInstr f v) s = .next (setCfg f.pos f.width v s) := by
  cases f with
  | codec => have h : v < 8 := hv; interval_cases v <;> rfl
  | cksel | treeMode => have h : v < 4 := hv; interval_cases v <;> rfl
  | isLazy | iomode => have h : v < 2 := hv; interval_cases v <;> rfl

theorem cfgField_cfgInstr (f : CfgField) {v : Nat} (hv : v < 2 ^ f.width) : (cfgInstr f v).cfgField = some f := by
  cases f with
  | codec => have h : v < 8 := hv; interval_cases v <;> rfl
  | cksel | treeMode => have h : v < 4 := hv; interval_cases v <;> rfl
  | isLazy | iomode => have h : v < 2 := hv; interval_cases v <;> rfl

/-- Settles O21: each field element is a write of its field, bit by bit. -/
theorem configFieldsHoldTheirValue : Obligations.ConfigFieldsHoldTheirValue := fun f v s hv =>
  ⟨cfgField_cfgInstr f hv, setCfg f.pos f.width v s, exec_cfgInstr f hv s, fieldOf_setCfg (cfgField_fits f) hv s,
    fun k hk => by
      by_cases h32 : k < 32
      · rw [setCfg_getLsbD _ _ _ _ h32, if_neg (by omega)]
      · rw [BitVec.getLsbD_of_ge _ _ (by omega), BitVec.getLsbD_of_ge _ _ (by omega)],
    rfl⟩

/-! ### STATUS (R35) -/

/-- `STATUS` bits 3:0 of a phase. -/
def sessionBits : Phase → Nat
  | .idle => 0
  | .header | .body | .trailer => 1
  | .done => 2
  | .failed => 4
  | .cancelled => 8

/-- `STATUS` as the sum of its fields: each lies below the next one's place, so nothing is carried. -/
theorem statusWord_toNat (s : State) : (statusWord s).toNat =
    sessionBits s.phase + 16 * dirBit s.dir + 256 * s.errcode.toNat + 65536 * (phaseCode s.phase).toNat := by
  have he := s.errcode.isLt
  have hd : dirBit s.dir ≤ 1 := by cases s.dir <;> decide
  rw [statusWord, BitVec.toNat_ofNat]
  cases h : s.phase <;> simp [h, busy, phaseBusy, bit, phaseCode, sessionBits] <;> omega

/-- The fields of `STATUS` (R35). -/
theorem statusWord_fields (s : State) :
    fieldOf (statusWord s) 0 4 = sessionBits s.phase ∧ fieldOf (statusWord s) 4 1 = dirBit s.dir ∧
    fieldOf (statusWord s) 5 3 = 0 ∧ fieldOf (statusWord s) 8 4 = s.errcode.toNat ∧ fieldOf (statusWord s) 12 4 = 0 ∧
    fieldOf (statusWord s) 16 3 = (phaseCode s.phase).toNat ∧ fieldOf (statusWord s) 19 13 = 0 := by
  have he := s.errcode.isLt
  have hc := (phaseCode s.phase).isLt
  have hd : dirBit s.dir < 2 := by cases s.dir <;> decide
  have hb : sessionBits s.phase < 16 := by cases s.phase <;> decide
  simp only [fieldOf, statusWord_toNat]
  omega

/-- The reserved bits of `STATUS` are bits 7:5, 15:12 and 31:19 (R35). -/
theorem statusMask_fields : ∀ k : Fin 32, (0xFFF8F0E0#32).getLsbD k = true →
    (5 ≤ k.val ∧ k.val < 5 + 3) ∨ (12 ≤ k.val ∧ k.val < 12 + 4) ∨ (19 ≤ k.val ∧ k.val < 19 + 13) := by decide

theorem and_statusMask {x : Word} (h5 : fieldOf x 5 3 = 0) (h12 : fieldOf x 12 4 = 0) (h19 : fieldOf x 19 13 = 0) :
    x &&& 0xFFF8F0E0#32 = 0 := by
  refine BitVec.eq_of_getLsbD_eq fun k hk => ?_
  rw [BitVec.getLsbD_and]
  cases hm : (0xFFF8F0E0#32).getLsbD k with
  | false => simp
  | true =>
    have hx : x.getLsbD k = false := by
      obtain ⟨a, b⟩ | ⟨a, b⟩ | ⟨a, b⟩ := statusMask_fields ⟨k, hk⟩ hm
      · exact getLsbD_of_fieldOf_zero h5 a b
      · exact getLsbD_of_fieldOf_zero h12 a b
      · exact getLsbD_of_fieldOf_zero h19 a b
    simp [hx]

/-- Settles O50: `STATUS` is the sum of its fields, and the four session bits are those of the phase. -/
theorem statusWordFields : Obligations.StatusWordFields := by
  intro s
  obtain ⟨hb, hd, h5, he, h12, hp, h19⟩ := statusWord_fields s
  have sessionBit : ∀ k < 4, (statusWord s).getLsbD k = (sessionBits s.phase).testBit k := fun k hk => by
    rw [← hb]; exact (getLsbD_of_fieldOf (Nat.zero_le k) (by omega)).symm
  have dirBit4 : (statusWord s).getLsbD 4 = (dirBit s.dir).testBit 0 := by
    rw [← hd]; exact (getLsbD_of_fieldOf (Nat.le_refl 4) (by decide)).symm
  rw [sessionBit 0 (by decide), sessionBit 1 (by decide), sessionBit 2 (by decide), sessionBit 3 (by decide), dirBit4]
  have low : (statusWord s).toNat % 16 = sessionBits s.phase := by simpa [fieldOf] using hb
  have code : (statusWord s).toNat / 65536 % 8 = (phaseCode s.phase).toNat := hp
  rw [low, code]
  refine ⟨?_, ?_, ?_, ?_, ?_, ?_, he, ?_, ?_, and_statusMask h5 h12 h19⟩
  case refine_6 => cases s.dir <;> rfl
  all_goals cases s.phase <;> decide

/-! ### Reset (R54, R382, R470) -/

theorem exec_softReset (s : State) : exec .softReset s = .next (resetMachine s) := rfl

/-- Settles O20: `resetMachine` is the reset state but for what is not the CORE's, whose fields are read off. -/
theorem resetRestoresTheResetValues : Obligations.ResetRestoresTheResetValues := by
  refine ⟨fun s => ⟨resetMachine s, exec_softReset s, rfl, rfl, rfl, rfl, rfl⟩, ⟨_, rfl⟩, ?_, ?_⟩
  · intro s rest h
    simp only [step, fetch, h]
    rfl
  · intro p
    have crc : crcFin crcInit = 0 := by decide
    have engine : ∀ g ∈ (State.resetWith p).engines, g = Engine.reset := fun _ => List.eq_of_mem_replicate
    refine ⟨rfl, rfl, rfl, rfl, rfl, rfl, rfl, rfl, rfl, rfl, rfl, rfl, rfl, rfl, crc, rfl, rfl, rfl, rfl, rfl, rfl,
      rfl, rfl, fun g hg => ?_, rfl, rfl, rfl, rfl, rfl, rfl, rfl, rfl, rfl, rfl⟩
    rw [engine g hg]
    exact ⟨rfl, rfl, rfl, rfl, rfl, rfl, rfl, rfl, rfl⟩

end Sys2Proof.Proofs


/-! PROOFS. The register window (O49). -/

namespace Sys2Proof.Proofs

open Machine Safety Laws

/-! ### Steps of the host and of a field of `CFG` (R28, R29, R95) -/

/-- A host access outside what the window takes is refused (R29, U2). -/
theorem step_host_write_refused (s : State) (rest : List Turn) {width off : Nat} (v : Word)
    (h : width ≠ 32 ∨ off % 4 ≠ 0) :
    step { s with agenda := .host (.write width off v) :: rest } = .refused .badRegisterAccess := by
  have ha : accessOk width off = false := by
    simp only [accessOk, Bool.and_eq_false_iff, beq_eq_false_iff_ne]; exact h
  simp [step, fetch, turnFetch, hostTurn, ha]

theorem step_host_read_refused (s : State) (rest : List Turn) {width off : Nat} (h : width ≠ 32 ∨ off % 4 ≠ 0) :
    step { s with agenda := .host (.read width off) :: rest } = .refused .badRegisterAccess := by
  have ha : accessOk width off = false := by
    simp only [accessOk, Bool.and_eq_false_iff, beq_eq_false_iff_ne]; exact h
  simp [step, fetch, turnFetch, hostTurn, ha]

theorem step_host_read (s : State) (rest : List Turn) {off : Nat} (h : off % 4 = 0) :
    step { s with agenda := .host (.read 32 off) :: rest } =
      .next { s with agenda := rest, readData := .reg (regRead { s with agenda := rest } off),
                     freeIdx := s.freeIdx + 1 } := by
  simp [step, fetch, turnFetch, hostTurn, accessOk, h]

/-- The read-only registers and what lies behind them (R29). -/
theorem regWrite_readOnly {off : Nat} (h : off % 4 = 0) (hr : off = 4 ∨ 0x18 ≤ off) (v : Word) (s : State) :
    regWrite off v s = .act s := by
  unfold regWrite
  split
  case h_6 => rfl
  all_goals omega

theorem step_host_write_readOnly (s : State) (rest : List Turn) {off : Nat} (v : Word) (h : off % 4 = 0)
    (hr : off = 4 ∨ 0x18 ≤ off) :
    step { s with agenda := .host (.write 32 off v) :: rest } = .next { s with agenda := rest } := by
  simp [step, fetch, turnFetch, hostTurn, accessOk, h, regWrite_readOnly h hr]

theorem step_cfgField (f : CfgField) (v : Word) (s : State) (rest : List Turn) :
    step { s with agenda := .cfgField f v :: rest } =
      .next (setCfg f.pos f.width (fieldOf v f.pos f.width) { s with agenda := rest }) :=
  exec_cfgInstr f (Nat.mod_lt _ (Nat.two_pow_pos _)) _

theorem regRead_reserved {off : Nat} (h : 0x38 ≤ off) (s : State) : regRead s off = 0 := by
  obtain ⟨n, rfl⟩ := Nat.exists_eq_add_of_le' h
  rfl

/-- The two halves of a counter (R38). -/
theorem counter_halves (c : BitVec 64) : (c.setWidth 32).toNat + 2 ^ 32 * ((c >>> 32).setWidth 32).toNat = c.toNat := by
  have := c.isLt
  simp only [BitVec.toNat_setWidth, BitVec.toNat_ushiftRight, Nat.shiftRight_eq_div_pow]
  omega

/-! ### A write of `CFG` is its five field writes (R30, R95) -/

/-- Copy one field of `v` into `CFG`. -/
def copyField (v : Word) (f : CfgField) (s : State) : State := setCfg f.pos f.width (fieldOf v f.pos f.width) s

theorem copyField_getLsbD (v : Word) (f : CfgField) (s : State) {k : Nat} (hk : k < 32) :
    (copyField v f s).regs.cfg.getLsbD k =
      if f.pos ≤ k ∧ k < f.pos + f.width then v.getLsbD k else s.regs.cfg.getLsbD k := by
  rw [copyField, setCfg_getLsbD _ _ _ _ hk]
  split
  · rename_i h; exact getLsbD_of_fieldOf h.1 h.2
  · rfl

/-- The five fields, from the last to the first. -/
def copyFields (v : Word) (s : State) : State :=
  copyField v .iomode (copyField v .isLazy (copyField v .treeMode (copyField v .cksel (copyField v .codec s))))

/-- Is bit `k` of `CFG` in one of the five fields (R30)? -/
def InField (k : Nat) : Prop := k < 3 ∨ (4 ≤ k ∧ k < 6) ∨ (8 ≤ k ∧ k < 10) ∨ k = 12 ∨ k = 13

theorem copyFields_of_inField {v : Word} {s : State} {k : Nat} (hk : k < 32) (h : InField k) :
    (copyFields v s).regs.cfg.getLsbD k = v.getLsbD k := by
  simp only [copyFields, copyField_getLsbD _ _ _ hk]
  split_ifs
  case neg =>
    simp only [InField, CfgField.pos, CfgField.width] at *
    omega
  all_goals rfl

theorem copyFields_of_not_inField {v : Word} {s : State} {k : Nat} (hk : k < 32) (h : ¬ InField k) :
    (copyFields v s).regs.cfg.getLsbD k = s.regs.cfg.getLsbD k := by
  simp only [copyFields, copyField_getLsbD _ _ _ hk]
  split_ifs
  case neg => rfl
  all_goals
    simp only [InField, CfgField.pos, CfgField.width] at *
    omega

theorem fieldMask_getLsbD : ∀ k : Fin 32, (0x3337#32).getLsbD k = true ↔ InField k := by
  unfold InField; decide

theorem copyFields_cfg (v : Word) (s : State) :
    (copyFields v s).regs.cfg = (s.regs.cfg &&& ~~~0x3337#32) ||| (v &&& 0x3337#32) := by
  refine BitVec.eq_of_getLsbD_eq fun k hk => ?_
  have hm := fieldMask_getLsbD ⟨k, hk⟩
  rw [BitVec.getLsbD_or, BitVec.getLsbD_and, BitVec.getLsbD_and, BitVec.getLsbD_not]
  by_cases hf : InField k
  · rw [copyFields_of_inField hk hf, hm.mpr hf]
    simp
  · rw [copyFields_of_not_inField hk hf, Bool.eq_false_iff.mpr (mt hm.mp hf)]
    simp [hk]

theorem copyFields_eq (v : Word) (s : State) :
    copyFields v s = { s with regs := { s.regs with cfg := (copyFields v s).regs.cfg } } := rfl

theorem run_next {s t : State} (k : Nat) (h : step s = .next t) :
    Sys2Proof.core.run (k + 1) s = Sys2Proof.core.run k t := by
  have hc : Sys2Proof.core.step s = .next t := h
  simp only [Host.Core.run, hc]

/-- One more field of the write: its turn is used up. -/
theorem run_cfgField (k : Nat) (f : CfgField) (v : Word) (s : State) (rest : List Turn) :
    Sys2Proof.core.run (k + 1) { s with agenda := .cfgField f v :: rest } =
      Sys2Proof.core.run k { copyField v f s with agenda := rest } :=
  run_next k (step_cfgField f v s rest)

/-- A write of `CFG` and the five turns it consists of (log entry 10). -/
theorem run_cfgWrite (s : State) (rest : List Turn) (v : Word) :
    Sys2Proof.core.run 6 { s with agenda := .host (.write 32 8 v) :: rest } =
      .next { copyFields v s with agenda := rest } := by
  have h : step { s with agenda := .host (.write 32 8 v) :: rest } =
      .next { s with agenda := (.cfgField .codec v :: .cfgField .cksel v :: .cfgField .treeMode v ::
        .cfgField .isLazy v :: .cfgField .iomode v :: rest) } := rfl
  rw [run_next 5 h, run_cfgField, run_cfgField, run_cfgField, run_cfgField, run_cfgField]
  rfl

/-- Settles O49: the cases of the window by offset, and a `CFG` write as its five turns. -/
theorem registerWindow : Obligations.RegisterWindow := by
  intro s rest width off v
  refine ⟨fun h => ⟨step_host_write_refused s rest v h, step_host_read_refused s rest h⟩,
    step_host_write_readOnly s rest v, rfl, rfl, rfl, ?_, step_host_read s rest, rfl, fun h => regRead_reserved h s,
    rfl, rfl, rfl, rfl, rfl, fun hb => ?_⟩
  · rw [run_cfgWrite, copyFields_eq, copyFields_cfg]
  · have result : ∀ w, resultReg s w = w := fun w => by simp [resultReg, hb]
    refine ⟨result _, result _, result _, result _, ?_, ?_⟩
    · exact (by rw [result, result]; exact counter_halves _ :
        (resultReg s (s.regs.inCount.setWidth 32)).toNat +
          2 ^ 32 * (resultReg s ((s.regs.inCount >>> 32).setWidth 32)).toNat = s.regs.inCount.toNat)
    · exact (by rw [result, result]; exact counter_halves _ :
        (resultReg s (s.regs.outCount.setWidth 32)).toNat +
          2 ^ 32 * (resultReg s ((s.regs.outCount >>> 32).setWidth 32)).toNat = s.regs.outCount.toNat)

end Sys2Proof.Proofs


/-! PROOFS. What decoding an element leaves of its source: an end of it, with at least one bit taken (R72, R73). -/

namespace Sys2Proof.Proofs

open Machine Safety Laws

/-! ### What the readers take from their source (R72, R73) -/

/-- A reader that answers leaves an end of its source, with at least `n` bits taken. -/
def Took {α : Type} (n : Nat) (bs : List Bool) (o : Option (α × List Bool)) : Prop :=
  ∀ a r, o = some (a, r) → r <:+ bs ∧ r.length + n ≤ bs.length

theorem Took.mono {α : Type} {n m : Nat} {bs : List Bool} {o : Option (α × List Bool)} (h : Took n bs o) (hm : m ≤ n) :
    Took m bs o := fun a r e => ⟨(h a r e).1, by have := (h a r e).2; omega⟩

/-- A part taken after another. -/
theorem Took.after {α β : Type} {n m : Nat} {bs r : List Bool} {o : Option (α × List Bool)} {p : Option (β × List Bool)}
    {a : α} (h : Took n bs o) (e : o = some (a, r)) (k : Took m r p) : Took (n + m) bs p := fun b q hq => by
  obtain ⟨h1, h2⟩ := h a r e
  obtain ⟨k1, k2⟩ := k b q hq
  exact ⟨k1.trans h1, by omega⟩

theorem took_none {α : Type} (n : Nat) (bs : List Bool) : Took n bs (none : Option (α × List Bool)) := nofun

theorem took_self {α : Type} (a : α) (bs : List Bool) : Took 0 bs (some (a, bs)) := by
  rintro _ _ ⟨⟩; exact ⟨List.suffix_refl bs, Nat.le_refl _⟩

/-- The value read does not matter. -/
theorem Took.map {α β : Type} {n : Nat} {bs r : List Bool} {o : Option (α × List Bool)} {a : α} (h : Took n bs o)
    (e : o = some (a, r)) (b : β) : Took n bs (some (b, r)) := by
  rintro _ _ ⟨⟩; exact h a r e

theorem took_takeBits (k : Nat) (bs : List Bool) : Took k bs (takeBits k bs) := by
  induction k generalizing bs with
  | zero => exact took_self 0 bs
  | succ k ih =>
    cases bs with
    | nil => exact took_none _ _
    | cons b bs =>
      unfold takeBits
      split
      · exact took_none _ _
      · rename_i v r h
        rintro _ _ ⟨⟩
        obtain ⟨h1, h2⟩ := ih bs v r h
        exact ⟨h1.trans (List.suffix_cons b bs), by simp only [List.length_cons]; omega⟩

theorem took_takeByte (bs : List Bool) : Took 8 bs (takeByte bs) := by
  unfold takeByte
  split
  · exact took_none _ _
  · rename_i h; exact (took_takeBits 8 bs).map h _

theorem took_takeBytes (n : Nat) (bs : List Bool) : Took (8 * n) bs (takeBytes n bs) := by
  induction n generalizing bs with
  | zero => exact took_self [] bs
  | succ n ih =>
    unfold takeBytes
    split
    · exact took_none _ _
    · rename_i b r hb
      split
      · exact took_none _ _
      · rename_i s r' hs
        exact (((took_takeByte bs).after hb (ih r)).map hs _).mono (by omega)

theorem took_takeLe (n : Nat) (bs : List Bool) : Took (8 * n) bs (takeLe n bs) := by
  unfold takeLe
  split
  · exact took_none _ _
  · rename_i h; exact (took_takeBytes n bs).map h _

theorem took_takeLeBits (w n : Nat) (bs : List Bool) : Took (8 * n) bs (takeLeBits w n bs) := by
  unfold takeLeBits
  split
  · exact took_none _ _
  · rename_i h; exact (took_takeLe n bs).map h _

theorem took_takeLens (n : Nat) (bs : List Bool) : Took (3 * n) bs (takeLens n bs) := by
  induction n generalizing bs with
  | zero => exact took_self [] bs
  | succ n ih =>
    unfold takeLens
    split
    · exact took_none _ _
    · rename_i v r hv
      split
      · exact took_none _ _
      · rename_i vs r' hs
        exact (((took_takeBits 3 bs).after hv (ih r)).map hs _).mono (by omega)

theorem took_takeZString (fuel : Nat) (bs : List Bool) : Took 8 bs (takeZString fuel bs) := by
  induction fuel generalizing bs with
  | zero => exact took_none _ _
  | succ fuel ih =>
    unfold takeZString
    split
    · exact took_none _ _
    · rename_i b r hb
      split
      · exact (took_takeByte bs).map hb _
      · split
        · exact took_none _ _
        · rename_i s r' hs
          exact (((took_takeByte bs).after hb (ih r)).map hs _).mono (by omega)

theorem took_takeVarint (fuel k : Nat) (bs : List Bool) : Took 8 bs (takeVarint fuel k bs) := by
  induction fuel generalizing k bs with
  | zero => exact took_none _ _
  | succ fuel ih =>
    unfold takeVarint
    split
    · exact took_none _ _
    · rename_i b r hb
      split
      · exact (took_takeByte bs).map hb _
      · split
        · exact took_none _ _
        · rename_i s r' hs
          exact (((took_takeByte bs).after hb (ih (k + 1) r)).map hs _).mono (by omega)

theorem took_takeExtra (bs : List Bool) : Took 16 bs (takeExtra bs) := by
  unfold takeExtra
  split
  · exact took_none _ _
  · rename_i n r hn
    exact ((took_takeLe 2 bs).after hn (took_takeBytes n r)).mono (by omega)

theorem took_takeIf {α : Type} {n : Nat} {f : List Bool → Option (α × List Bool)} (hf : ∀ bs, Took n bs (f bs))
    (flag : Bool) (bs : List Bool) : Took 0 bs (takeIf flag f bs) := by
  unfold takeIf
  split
  · split
    · exact took_none _ _
    · rename_i h; exact ((hf bs).map h _).mono (Nat.zero_le n)
  · exact took_self none bs

/-- Decoding to an element leaves an end of the source, with at least `n` bits taken. -/
def Left (n : Nat) (bs : List Bool) (d : Decoded) : Prop :=
  ∀ i r, d = .ok i r → r <:+ bs ∧ r.length + n ≤ bs.length

theorem left_ok (i : Instr) (bs : List Bool) : Left 0 bs (.ok i bs) := by
  rintro _ _ ⟨⟩; exact ⟨List.suffix_refl bs, Nat.le_refl _⟩

theorem left_bad (n : Nat) (bs : List Bool) (d : Detail) : Left n bs (.bad d) := nofun
theorem left_short (n : Nat) (bs : List Bool) : Left n bs .short := nofun
theorem left_illegal (n : Nat) (bs : List Bool) : Left n bs .illegal := nofun

theorem Left.mono {n m : Nat} {bs : List Bool} {d : Decoded} (h : Left n bs d) (hm : m ≤ n) : Left m bs d :=
  fun i r e => ⟨(h i r e).1, by have := (h i r e).2; omega⟩

/-- What is decoded from an end of the source. -/
theorem Left.of_suffix {n : Nat} {bs r : List Bool} {d : Decoded} (h : r <:+ bs ∧ r.length + n ≤ bs.length)
    (k : Left 0 r d) : Left n bs d := fun i q e => by
  obtain ⟨k1, k2⟩ := k i q e
  exact ⟨k1.trans h.1, by omega⟩

/-- The first part takes its bits, and what comes after it takes an end of the rest. -/
theorem Took.left_need {α : Type} {n : Nat} {bs : List Bool} {o : Option (α × List Bool)} {k : α → List Bool → Decoded}
    (ho : Took n bs o) (hk : ∀ a r, Left 0 r (k a r)) : Left n bs (need o k) := by
  unfold need
  split
  · exact left_short _ _
  · rename_i a r
    exact .of_suffix (ho a r rfl) (hk a r)

/-- A later part, of which only the end of the source counts. -/
theorem Took.suffix_need {α : Type} {n : Nat} {bs : List Bool} {o : Option (α × List Bool)}
    {k : α → List Bool → Decoded} (ho : Took n bs o) (hk : ∀ a r, Left 0 r (k a r)) : Left 0 bs (need o k) :=
  (ho.left_need hk).mono (Nat.zero_le n)

theorem decSymLoop_took {t : Tree} {n l c : Nat} {bs r : List Bool} {s : Nat} (h : decSymLoop t n l c bs = .sym s r) :
    r <:+ bs ∧ r.length + 1 ≤ bs.length := by
  induction n generalizing l c bs with
  | zero => cases h
  | succ n ih =>
    cases bs with
    | nil => cases h
    | cons b bs =>
      unfold decSymLoop at h
      split at h
      · cases h; exact ⟨List.suffix_cons b r, Nat.le_refl _⟩
      · obtain ⟨h1, h2⟩ := ih h
        exact ⟨h1.trans (List.suffix_cons b bs), by simp only [List.length_cons]; omega⟩

theorem decodeSym_left (t : Tree) (extra : Nat → Nat) (mk : Nat → Nat → Option Instr) (bs : List Bool) :
    Left 1 bs (decodeSym t extra mk bs) := by
  unfold decodeSym
  split
  · exact left_short _ _
  · exact left_bad _ _ _
  · rename_i s r hs
    refine .of_suffix (decSymLoop_took hs) ((took_takeBits _ r).suffix_need fun e r' => ?_)
    split
    · exact left_ok _ r'
    · exact left_illegal _ _

theorem decodeCl_left (t : Tree) (q : Bool) (bs : List Bool) : Left 1 bs (decodeCl t q bs) := by
  obtain ⟨_, _, h⟩ | h := decodeCl_cases t q bs
  · rw [h]; exact left_bad _ _ _
  · rw [h]; exact decodeSym_left _ _ _ bs

theorem decodeStored_left (pad : Nat) (bs : List Bool) : Left 1 bs (decodeStored pad bs) := by
  have h : Left 16 (bs.drop pad) (decodeStored pad bs) :=
    (took_takeLeBits 16 2 _).left_need fun len r => (took_takeLeBits 16 2 r).suffix_need fun nlen r => by
      split
      · exact (took_takeBytes _ r).suffix_need fun data r => left_ok _ r
      · exact left_ok _ r
  intro i r hr
  obtain ⟨h1, h2⟩ := h i r hr
  have hd := (List.drop_suffix pad bs).length_le
  exact ⟨h1.trans (List.drop_suffix pad bs), by omega⟩

theorem decodeDyn_left (bs : List Bool) : Left 5 bs (decodeDyn bs) :=
  (took_takeBits 5 bs).left_need fun _ r => (took_takeBits 5 r).suffix_need fun _ r =>
  (took_takeBits 4 r).suffix_need fun _ r => by
    split
    · exact left_ok _ r
    · exact (took_takeLens _ r).suffix_need fun _ r => left_ok _ r

theorem decodeGzip_left (bs : List Bool) : Left 8 bs (decodeGzip bs) :=
  (took_takeByte bs).left_need fun _ r => (took_takeByte r).suffix_need fun _ r =>
  (took_takeByte r).suffix_need fun _ r => (took_takeByte r).suffix_need fun _ r =>
  (took_takeLeBits 32 4 r).suffix_need fun _ r => (took_takeByte r).suffix_need fun _ r =>
  (took_takeByte r).suffix_need fun _ r => by
    split
    · exact left_ok _ r
    · exact (took_takeIf took_takeExtra _ r).suffix_need fun _ r =>
        (took_takeIf (fun b => took_takeZString _ b) _ r).suffix_need fun _ r =>
        (took_takeIf (fun b => took_takeZString _ b) _ r).suffix_need fun _ r =>
        (took_takeIf (took_takeLeBits 16 2) _ r).suffix_need fun _ r => left_ok _ r

theorem decodeGzipTrl_left (crc : Word) (bs : List Bool) : Left 32 bs (decodeGzipTrl crc bs) :=
  (took_takeLeBits 32 4 bs).left_need fun _ r => by
    split
    · exact (took_takeLeBits 32 4 r).suffix_need fun _ r => left_ok _ r
    · exact left_ok _ r

theorem decodeMagic_left (bs : List Bool) : Left 32 bs (decodeMagic bs) :=
  (took_takeLeBits 32 4 bs).left_need fun _ r => by
    split
    · exact left_ok _ r
    · split
      · exact left_ok _ r
      · split <;> exact left_bad _ _ _

theorem decodeDesc_left (bs : List Bool) : Left 8 bs (decodeDesc bs) :=
  (took_takeByte bs).left_need fun _ r => by
    split
    · exact left_ok _ r
    · exact (took_takeByte r).suffix_need fun _ r => by
        split
        · exact left_ok _ r
        · exact (took_takeIf (took_takeLeBits 64 8) _ r).suffix_need fun _ r =>
            (took_takeIf (took_takeLeBits 32 4) _ r).suffix_need fun _ r =>
            (took_takeByte r).suffix_need fun _ r => left_ok _ r

theorem decodeBlk_left (m : Nat) (ck : Bool) (bs : List Bool) : Left 32 bs (decodeBlk m ck bs) :=
  (took_takeLeBits 32 4 bs).left_need fun _ r => by
    split
    · exact left_ok _ r
    · split
      · exact left_ok _ r
      · exact (took_takeBytes _ r).suffix_need fun _ r =>
          (took_takeIf (took_takeLeBits 32 4) _ r).suffix_need fun _ r => left_ok _ r

theorem decodeTag_left (room : Nat) (bs : List Bool) : Left 8 bs (decodeTag room bs) :=
  (took_takeByte bs).left_need fun _ r => by
    split
    · exact (took_takeBytes _ r).suffix_need fun _ r => by
        split
        · exact left_ok _ r
        · exact (took_takeBytes _ r).suffix_need fun _ r => left_ok _ r
    · exact (took_takeByte r).suffix_need fun _ r => left_ok _ r
    · exact (took_takeLe 2 r).suffix_need fun _ r => left_ok _ r
    · exact (took_takeLe 4 r).suffix_need fun _ r => left_ok _ r

/-- Every element but an LZ4 sequence, which is read by bytes, takes at least one bit. -/
theorem decode_left {c : Ctx} (hc : c ≠ .lz4Seq) (bs : List Bool) : Left 1 bs (decode c bs) := by
  cases c with
  | cmd => exact ((took_takeBits 4 bs).left_need fun _ r => left_ok _ r).mono (by decide)
  | cfg f =>
    exact ((took_takeBits f.width bs).left_need fun _ r => left_ok _ r).mono (by cases f <;> decide)
  | beat =>
    refine ((took_takeBits 10 bs).left_need fun _ r => ?_).mono (by decide)
    split
    · exact left_ok _ r
    · exact left_illegal _ _
  | token =>
    refine ((took_takeBits 40 bs).left_need fun _ r => ?_).mono (by decide)
    split
    · exact left_ok _ r
    · exact left_illegal _ _
  | dflHdr => exact ((took_takeBits 3 bs).left_need fun _ r => left_ok _ r).mono (by decide)
  | dflStored pad => exact decodeStored_left pad bs
  | dflDyn => exact (decodeDyn_left bs).mono (by decide)
  | llSym t => exact decodeSym_left t _ _ bs
  | dSym t => exact decodeSym_left t _ _ bs
  | clSym t q => exact decodeCl_left t q bs
  | zlibHdr =>
    exact ((took_takeByte bs).left_need fun _ r =>
      (took_takeByte r).suffix_need fun _ r => left_ok _ r).mono (by decide)
  | zlibTrl => exact ((took_takeBytes 4 bs).left_need fun _ r => left_ok _ r).mono (by decide)
  | gzipHdr => exact (decodeGzip_left bs).mono (by decide)
  | gzipTrl crc => exact (decodeGzipTrl_left crc bs).mono (by decide)
  | lz4Magic => exact (decodeMagic_left bs).mono (by decide)
  | lz4Desc => exact (decodeDesc_left bs).mono (by decide)
  | lz4Blk m ck => exact (decodeBlk_left m ck bs).mono (by decide)
  | lz4Content => exact ((took_takeLeBits 32 4 bs).left_need fun _ r => left_ok _ r).mono (by decide)
  | lz4Seq => exact absurd rfl hc
  | snpPre => exact ((took_takeVarint 5 0 bs).left_need fun _ r => left_ok _ r).mono (by decide)
  | snpTag room => exact (decodeTag_left room bs).mono (by decide)

end Sys2Proof.Proofs


/-! PROOFS. A step runs the element its turn decodes (O47). -/

namespace Sys2Proof.Proofs

open Machine Safety Laws

/-! ### Taking a failure (R440, R433, R399) -/

theorem freeBelow_le (idx bound : Nat) : freeBelow idx bound ≤ bound :=
  Nat.le_of_lt_succ (Nat.mod_lt _ (Nat.succ_pos bound))

theorem ofNat_freeBelow_le (w idx bound : Nat) : (BitVec.ofNat w (freeBelow idx bound)).toNat ≤ bound := by
  rw [BitVec.toNat_ofNat]
  exact (Nat.mod_le _ _).trans (freeBelow_le idx bound)

/-- What taking a failure leaves in a running session (R440). -/
theorem failWith_failedWith {s : State} (hb : busy s = true) (k : BitVec 4) (d : BitVec 8) (e : Nat) (b : Word) :
    FailedWith k d e b s (failWith k d e b s) := by
  rw [failWith_busy hb]
  exact ⟨rfl, rfl, rfl, rfl, rfl, rfl, ofNat_freeBelow_le _ _ _, ofNat_freeBelow_le _ _ _, rfl, rfl,
    fun i => List.getElem?_map, rfl, rfl, rfl, rfl, rfl, rfl, rfl, rfl⟩

theorem failSession_failedAs {s : State} (hb : busy s = true) (d : Detail) : FailedAs d s (failSession d s) :=
  failWith_failedWith hb _ _ _ _

theorem raiseSeq_raised {s : State} (hb : busy s = true) (d : Detail) : Raised d s (raiseSeq d s) := by
  unfold Raised
  obtain ⟨hc, h⟩ | ⟨hc, h⟩ := raiseSeq_cases d s
  · rw [if_pos hc, h]; exact failSession_failedAs hb d
  · rw [if_neg hc, h]

/-! ### A step by the turn at the head of the agenda -/

section
variable {s : State} {rest : List Turn}

theorem step_of_elem {t : Turn} {i : Instr} {u : State} (h : s.agenda = t :: rest)
    (hf : turnFetch t { s with agenda := rest } = .elem i u) : step s = exec i u := by
  simp only [step, fetch, h, hf]

theorem step_of_act {t : Turn} {u : State} (h : s.agenda = t :: rest)
    (hf : turnFetch t { s with agenda := rest } = .act u) : step s = .next u := by
  simp only [step, fetch, h, hf]

theorem step_of_refuse {t : Turn} {r : Refusal} (h : s.agenda = t :: rest)
    (hf : turnFetch t { s with agenda := rest } = .refuse r) : step s = .refused r := by
  simp only [step, fetch, h, hf]

theorem turnFetch_of_some {a : Agent} {u : State} {f : Fetched} (h : agentTurn a u = some f) :
    turnFetch (.agent a) u = f := by
  simp only [turnFetch, h]

/-- An agent that is not enabled takes no step (log entry 1). -/
theorem turnFetch_of_none {a : Agent} {u : State} (h : agentTurn a u = none) : turnFetch (.agent a) u = .act u := by
  simp only [turnFetch, h]

end

/-! ### The sequencer reads an element (R387, R72) -/

theorem agentTurn_sequencer {s : State} (hb : busy s = true) (hd : s.dir = .decompress) :
    agentTurn .sequencer s = decompressTurn s := by
  simp only [agentTurn, sequencerTurn, hb, hd, if_true]

/-- The sequencer reads an element where none of its own steps comes first (R387). -/
theorem decompressTurn_reads {s : State} {c : Ctx} (hcan : ¬ (s.cancelReq = true ∧ hasUnits s = false))
    (hdef : s.deferred = none) (hraw : ¬ (s.phase = .header ∧ s.want = .dflHdr))
    (hsnp : ¬ (s.want = .snpTag ∧ s.unp.produced = s.unp.declared)) (hc : wantCtx s = some c) :
    decompressTurn s = readElem c s := by
  have hdrain : s.want ≠ .lz4Drain := fun hw => by rw [wantCtx, hw] at hc; cases hc
  have htrail : s.want ≠ .trailing := fun hw => by rw [wantCtx, hw] at hc; cases hc
  rw [decompressTurn, if_neg hcan, hdef]
  simp only [if_neg hraw, if_neg hdrain, if_neg htrail, if_neg hsnp, hc]

/-- Raw DEFLATE has no header to read (R387). -/
theorem decompressTurn_raw {s : State} (hcan : ¬ (s.cancelReq = true ∧ hasUnits s = false))
    (hdef : s.deferred = none) (hraw : s.phase = .header ∧ s.want = .dflHdr) :
    decompressTurn s = some (.act { s with phase := .body }) := by
  rw [decompressTurn, if_neg hcan, hdef]
  simp only [if_pos hraw]

theorem agentTurn_sequencer_reads {s : State} {rest : List Turn} {c : Ctx} (h : SequencerReads s rest c) :
    agentTurn .sequencer { s with agenda := rest } = readElem c { s with agenda := rest } := by
  obtain ⟨_, hb, hd, hdef, hcan, hc, hraw, hsnp⟩ := h
  exact (agentTurn_sequencer (s := { s with agenda := rest }) hb hd).trans
    (decompressTurn_reads (s := { s with agenda := rest }) hcan hdef hraw hsnp hc)

theorem wantCtx_ne_lz4Seq {s : State} {c : Ctx} (h : wantCtx s = some c) : c ≠ .lz4Seq := by
  rintro rfl
  unfold wantCtx at h
  split at h <;> cases h

/-- Reading an element moves the cursor past its bits (R25, R72). -/
theorem decode_movedPast {c : Ctx} {u : Unpacker} {src : List Byte} {i : Instr} {r : List Bool} (hc : c ≠ .lz4Seq)
    (hs : src.length < 2 ^ 64) (h : decode c (unreadBits u src) = .ok i r) :
    ∃ read, MovedPast read r src u (moveTo src.length r.length u) := by
  obtain ⟨⟨read, hr⟩, hl⟩ := decode_left hc _ i r h
  refine ⟨read, moveTo_movedPast hs ?_ hr.symm⟩
  rintro rfl
  rw [← hr] at hl
  simp at hl

/-! ### An engine's turn (R391) -/

theorem agentTurn_engine_token {s : State} {e : Nat} {g : Engine} (hb : busy s = true) (hg : s.engines[e]? = some g)
    (hst : g.st = .busy) (hj : g.job = .count ∨ g.job = .pack) :
    agentTurn (.engine e) s = some (tokenTurn e g s) := by
  obtain hj | hj := hj <;> simp only [agentTurn, engineTurn, hg, hb, hst, hj, and_self, if_true]

theorem agentTurn_engine_sequence {s : State} {e : Nat} {g : Engine} (hb : busy s = true)
    (hg : s.engines[e]? = some g) (hst : g.st = .busy) (hj : g.job = .unpack) :
    agentTurn (.engine e) s = some (sequenceTurn e g s) := by
  simp only [agentTurn, engineTurn, hg, hb, hst, hj, and_self, if_true]

/-! ### The sequencer's and the packer's elements -/

section
variable {s : State} {rest : List Turn} {c : Ctx} (h : SequencerReads s rest c)
include h

theorem step_of_decode_ok {i : Instr} {r : List Bool} (hd : decode c (unreadBits s.unp s.strm) = .ok i r) :
    step s = exec i { s with agenda := rest, unp := moveTo s.strm.length r.length s.unp } :=
  step_of_elem h.1 (turnFetch_of_some (by rw [agentTurn_sequencer_reads h]; simp only [readElem, hd]))

theorem step_of_decode_short (hd : decode c (unreadBits s.unp s.strm) = .short) (he : s.inEnded = true) :
    step s = .next (raiseSeq .eof { s with agenda := rest }) :=
  step_of_act h.1 (turnFetch_of_some (by rw [agentTurn_sequencer_reads h]; simp only [readElem, hd, he, if_true]))

theorem step_of_decode_waits (hd : decode c (unreadBits s.unp s.strm) = .short) (he : s.inEnded = false) :
    step s = .next { s with agenda := rest } :=
  step_of_act h.1 (turnFetch_of_none (by rw [agentTurn_sequencer_reads h]; simp [readElem, hd, he]))

theorem step_of_decode_bad {d : Detail} (hd : decode c (unreadBits s.unp s.strm) = .bad d) :
    step s = .next (raiseSeq d { s with agenda := rest }) :=
  step_of_act h.1 (turnFetch_of_some (by rw [agentTurn_sequencer_reads h]; simp only [readElem, hd]))

theorem step_of_decode_illegal (hd : decode c (unreadBits s.unp s.strm) = .illegal) :
    step s = .refused .illegalWord :=
  step_of_refuse h.1 (turnFetch_of_some (by rw [agentTurn_sequencer_reads h]; simp only [readElem, hd]))

end

/-- A code that no symbol has, and a code cut short, in all three alphabets (R215). -/
theorem decode_symbol_of_decSym (tr : Tree) (bs : List Bool) (q : Bool) :
    (decSym tr bs = .noCode → decode (.llSym tr) bs = .bad .hufNoCode ∧ decode (.dSym tr) bs = .bad .hufNoCode ∧
      decode (.clSym tr q) bs = .bad .hufNoCode) ∧
    (decSym tr bs = .short → decode (.llSym tr) bs = .short ∧ decode (.dSym tr) bs = .short ∧
      decode (.clSym tr q) bs = .short) := by
  constructor
  · intro h; simp [decode, decodeSym, decodeCl, h]
  · intro h; simp [decode, decodeSym, decodeCl, h]

/-- Settles O47: the sequencer's turn is `readElem`, whose outcome is that of `decode`; a packing or counting engine's
is `tokenTurn`. -/
theorem stepRunsTheDecodedElement : Obligations.StepRunsTheDecodedElement := by
  refine ⟨fun s rest c h => ?_, decode_symbol_of_decSym, ?_, ?_⟩
  · have hb : busy { s with agenda := rest } = true := h.2.1
    have hc : c ≠ .lz4Seq := by
      obtain ⟨_, _, _, _, _, hwant, _⟩ := h
      exact wantCtx_ne_lz4Seq hwant
    split
    · rename_i i r hd
      exact ⟨step_of_decode_ok h hd, fun hs => decode_movedPast hc hs hd⟩
    · rename_i hd
      split
      · rename_i he; exact ⟨_, step_of_decode_short h hd he, raiseSeq_raised hb _⟩
      · rename_i he; exact step_of_decode_waits h hd (Bool.eq_false_iff.mpr he)
    · rename_i d hd; exact ⟨_, step_of_decode_bad h hd, raiseSeq_raised hb d⟩
    · rename_i hd; exact step_of_decode_illegal h hd
  · intro s rest hag hph hdir hw hdef hcan
    have hb : busy { s with agenda := rest } = true := by simp [busy, hph, phaseBusy]
    exact step_of_act hag (turnFetch_of_some
      ((agentTurn_sequencer hb hdir).trans (decompressTurn_raw hcan hdef ⟨hph, hw⟩)))
  · rintro s rest e g w i r ⟨hag, hb, hg, hst⟩ hj ht hd
    refine step_of_elem hag (turnFetch_of_some
      ((agentTurn_engine_token (s := { s with agenda := rest }) hb hg hst hj).trans ?_))
    simp only [tokenTurn, ht, hd]
    rfl

end Sys2Proof.Proofs


/-! PROOFS. A step runs the elements of the host, the ports and an LZ4 block (O48). -/

namespace Sys2Proof.Proofs

open Machine Safety Laws

/-! ### Bytes and their bits (R66, R73) -/

theorem takeBits_natBits (k v : Nat) (r : List Bool) : takeBits k (natBits k v ++ r) = some (v % 2 ^ k, r) := by
  induction k generalizing v with
  | zero => simp [takeBits, natBits, Nat.mod_one]
  | succ k ih =>
    have hb : (v % 2 == 1).toNat = v % 2 := by
      rcases Nat.mod_two_eq_zero_or_one v with h | h <;> simp [h]
    simp only [natBits, List.cons_append, takeBits, ih, hb]
    rw [Nat.pow_succ', Nat.mod_mul]

theorem takeByte_bitsOfByte (b : Byte) (r : List Bool) : takeByte (bitsOfByte b ++ r) = some (b, r) := by
  simp only [takeByte, bitsOfByte, takeBits_natBits]
  rw [Nat.mod_eq_of_lt b.isLt, BitVec.ofNat_toNat, BitVec.setWidth_eq]

theorem takeBytes_bitsOfBytes (bs : List Byte) (r : List Bool) :
    takeBytes bs.length (bitsOfBytes bs ++ r) = some (bs, r) := by
  induction bs with
  | nil => rfl
  | cons b bs ih => simp only [bitsOfBytes, List.length_cons, takeBytes, List.append_assoc, takeByte_bitsOfByte, ih]

theorem sourceBytes_bitsOfBytes (bs : List Byte) : sourceBytes (bitsOfBytes bs) = bs := by
  have h := takeBytes_bitsOfBytes bs []
  rw [List.append_nil] at h
  simp only [sourceBytes, wholeBytes, bitsOfBytes_length, Nat.mul_div_cancel_left _ (by decide : 0 < 8), h]

theorem bitsOfBytes_append (as bs : List Byte) : bitsOfBytes (as ++ bs) = bitsOfBytes as ++ bitsOfBytes bs := by
  induction as with
  | nil => rfl
  | cons a as ih => simp only [List.cons_append, bitsOfBytes, ih, List.append_assoc]

/-! ### LZ4 sequences are read by bytes (R325, R326) -/

theorem lz4ReadExt_suffix {v n : Nat} {bs rest : List Byte} (h : lz4ReadExt v bs = some (n, rest)) : rest <:+ bs := by
  induction bs generalizing v with
  | nil => cases h
  | cons b bs ih =>
    unfold lz4ReadExt at h
    split at h
    · exact (ih h).trans (List.suffix_cons b bs)
    · cases h; exact List.suffix_cons b rest

theorem lz4ReadLen_suffix {f n : Nat} {bs rest : List Byte} (h : lz4ReadLen f bs = some (n, rest)) : rest <:+ bs := by
  unfold lz4ReadLen at h
  split at h
  · exact lz4ReadExt_suffix h
  · cases h; exact List.suffix_refl bs

/-- A sequence takes at least its token byte and leaves whole bytes. -/
theorem decodeSeqBytes_left {s : List Byte} {i : Instr} {r : List Bool} (h : decodeSeqBytes s = .ok i r) :
    ∃ t pre rest, s = t :: (pre ++ rest) ∧ r = bitsOfBytes rest := by
  unfold decodeSeqBytes at h
  split at h
  · cases h
  · rename_i t s
    refine ⟨t, ?_⟩
    split at h
    · cases h
    · rename_i ll s1 hs1
      have h1 := lz4ReadLen_suffix hs1
      split at h
      · cases h
      · split at h
        · cases h; exact ⟨s, [], by simp, rfl⟩
        · cases h; exact ⟨s, [], by simp, rfl⟩
        · rename_i o0 o1 s2 hs2
          have h2 : s2 <:+ s := ((List.suffix_cons o1 s2).trans (List.suffix_cons o0 _)).trans
            (hs2 ▸ (List.drop_suffix ll s1).trans h1)
          split at h
          · cases h; exact ⟨s, [], by simp, rfl⟩
          · rename_i m rest hm
            cases h
            obtain ⟨pre, hp⟩ := (lz4ReadLen_suffix hm).trans h2
            exact ⟨pre, rest, by rw [hp], rfl⟩

/-- Reading a sequence at a byte boundary moves the cursor past its bytes (R72, R325). -/
theorem decode_lz4Seq_movedPast {u : Unpacker} {src : List Byte} {i : Instr} {r : List Bool} (hs : src.length < 2 ^ 64)
    (hp : u.bitpos = 0) (h : decode .lz4Seq (unreadBits u src) = .ok i r) :
    ∃ read, MovedPast read r src u (moveTo src.length r.length u) := by
  have hu : unreadBits u src = bitsOfBytes (src.drop u.cur.toNat) := by simp [unreadBits, hp]
  simp only [decode, hu, sourceBytes_bitsOfBytes] at h
  obtain ⟨t, pre, rest, hsrc, rfl⟩ := decodeSeqBytes_left h
  refine ⟨bitsOfBytes (t :: pre), moveTo_movedPast hs ?_ ?_⟩
  · exact List.ne_nil_of_length_pos (by simp)
  · rw [hu, hsrc, ← bitsOfBytes_append]; rfl

/-! ### Reading a block out of its buffer (R46) -/

theorem read_none_of_addrFrom {m : Memory} {x a : Nat} (hm : Memory.wf m = true) (h : AddrFrom x m) (ha : a < x) :
    m.read a = none := by
  induction m generalizing x with
  | nil => rfl
  | cons c m ih =>
    have hx : x ≤ c.1 := h
    rw [Memory.read, if_neg (by omega)]
    exact ih (wf_tail hm) (addrFrom_tail hm) (by omega)

/-- A canonical memory that holds the bytes `bs` from `a` on gives them (R14). -/
theorem readN_of_read {m : Memory} {a : Nat} {bs : List Byte} (hm : Memory.wf m = true)
    (h : ∀ k, k < bs.length → m.read (a + k) = bs[k]?) : m.readN a bs.length = some bs := by
  induction m generalizing a bs with
  | nil =>
    cases bs with
    | nil => rfl
    | cons b bs => exact nomatch h 0 (Nat.succ_pos _)
  | cons c m ih =>
    cases bs with
    | nil => rfl
    | cons b bs =>
      have h0 : Memory.read (c :: m) a = some b := h 0 (Nat.succ_pos _)
      rw [List.length_cons, Memory.readN]
      by_cases hlt : c.1 < a
      · rw [if_pos hlt]
        refine ih (bs := b :: bs) (wf_tail hm) fun k hk => ?_
        have hr := h k hk
        rwa [Memory.read, if_neg (by omega)] at hr
      · rw [if_neg hlt]
        by_cases heq : c.1 = a
        · have htail : Memory.readN m (a + 1) bs.length = some bs := ih (wf_tail hm) fun k hk => by
            have hr := h (k + 1) (Nat.succ_lt_succ hk)
            rw [Memory.read, if_neg (by omega), List.getElem?_cons_succ] at hr
            rwa [show a + 1 + k = a + (k + 1) by omega]
          rw [Memory.read, if_pos heq] at h0
          cases h0
          rw [if_pos heq, htail]
        · rw [Memory.read, if_neg heq, read_none_of_addrFrom (wf_tail hm) (addrFrom_tail hm) (by omega)] at h0
          cases h0

theorem blockData_of_blockIs {g : Engine} {bs : List Byte} (h : BlockIs g bs) : blockData g = some bs := by
  obtain ⟨hl, hm, hr⟩ := h
  rw [blockData, ← hl]
  exact readN_of_read hm fun k hk => by rw [Nat.zero_add]; exact hr k hk

/-! ### The elements of the host, the ports and an LZ4 block -/

theorem intakeTurn_of_beat {s : State} {b : Beat} {q : List Beat} {i : Instr}
    (hopen : 0 < s.discard ∨ busy s = true ∧ s.inEnded = false) (hin : s.inp = b :: q) (hi : beatElem b = some i) :
    intakeTurn s = some (.elem i { s with inp := q }) := by
  simp only [intakeTurn, if_pos hopen, hin, hi]

theorem failEngine_engineFailed (d : Detail) (g : Engine) : EngineFailed d g (failEngine d g) := ⟨rfl, rfl, rfl, rfl⟩

/-- Settles O48: each turn's element or effect is read off the turn's definition; the block's bytes are those of the
engine's buffer. -/
theorem stepRunsHostAndInputElements : Obligations.StepRunsHostAndInputElements := by
  refine ⟨fun s rest v h => step_of_elem h rfl, fun s rest v h => step_of_act h rfl,
    fun s rest f v h => step_of_elem h rfl, ?_, ?_, ?_, fun s rest b h => step_of_act h rfl, ?_⟩
  · intro s rest b q i hag hopen hin hi
    exact step_of_elem hag (turnFetch_of_some (intakeTurn_of_beat (s := { s with agenda := rest }) hopen hin hi))
  · rintro s rest e g bs i r ⟨hag, hb, hg, hst⟩ hj hblk hd
    have hlen : bs.length < 2 ^ 64 := by have := g.blklen.isLt; rw [hblk.1]; omega
    refine ⟨step_of_elem hag (turnFetch_of_some
      ((agentTurn_engine_sequence (s := { s with agenda := rest }) hb hg hst hj).trans ?_)),
      fun hp => decode_lz4Seq_movedPast hlen hp hd⟩
    simp only [sequenceTurn, blockData_of_blockIs hblk, hd]
    rfl
  · rintro s rest e g bs d ⟨hag, hb, hg, hst⟩ hj hblk hd
    refine ⟨_, failEngine d g, step_of_act hag (turnFetch_of_some
      ((agentTurn_engine_sequence (s := { s with agenda := rest }) hb hg hst hj).trans ?_)), rfl,
      failEngine_engineFailed d g⟩
    simp only [sequenceTurn, blockData_of_blockIs hblk, hd]
    rfl
  · intro s rest hag
    refine ⟨fun hout => step_of_act hag ?_, fun b q hout => step_of_act hag ?_⟩
    · simp only [turnFetch, hostTurn, hout]
    · simp only [turnFetch, hostTurn, hout]

end Sys2Proof.Proofs


/-! PROOFS. Reading back what was written: each reader of the decoder (R72, R73) on the bits the encoder lays. -/

namespace Sys2Proof.Proofs

open Machine Safety Laws

/-! ### Reading primitives on written bits (R65, R66, R70, R72, R73) -/

@[simp] theorem need_some {α : Type} (a : α) (r : List Bool) (k : α → List Bool → Decoded) :
    need (some (a, r)) k = k a r := rfl

theorem takeBits_natBits_of_lt {k v : Nat} (h : v < 2 ^ k) (r : List Bool) :
    takeBits k (natBits k v ++ r) = some (v, r) := by
  rw [takeBits_natBits, Nat.mod_eq_of_lt h]

@[simp] theorem takeByte_bitsOfBytes_cons (b : Byte) (bs : List Byte) (r : List Bool) :
    takeByte (bitsOfBytes (b :: bs) ++ r) = some (b, bitsOfBytes bs ++ r) := by
  rw [bitsOfBytes, List.append_assoc, takeByte_bitsOfByte]

theorem takeBytes_bitsOfBytes_of_length {n : Nat} {bs : List Byte} (h : bs.length = n) (r : List Bool) :
    takeBytes n (bitsOfBytes bs ++ r) = some (bs, r) := h ▸ takeBytes_bitsOfBytes bs r

@[simp] theorem leBytes_length (n v : Nat) : (leBytes n v).length = n := by
  induction n generalizing v with
  | zero => rfl
  | succ n ih => rw [leBytes, List.length_cons, ih]

theorem leNat_leBytes (n v : Nat) : leNat (leBytes n v) = v % 256 ^ n := by
  induction n generalizing v with
  | zero => rw [Nat.pow_zero, Nat.mod_one]; rfl
  | succ n ih =>
    rw [leBytes, leNat, ih, BitVec.toNat_ofNat, show 256 ^ (n + 1) = 256 * 256 ^ n from Nat.pow_succ', Nat.mod_mul]

theorem takeLe_leBytes (n v : Nat) (r : List Bool) :
    takeLe n (bitsOfBytes (leBytes n v) ++ r) = some (v % 256 ^ n, r) := by
  simp only [takeLe, takeBytes_bitsOfBytes_of_length (leBytes_length n v), leNat_leBytes]

/-- A register of `w` bits is read back from bytes that hold them all. -/
theorem toNat_mod_bytes {w n : Nat} (h : w ≤ 8 * n) (v : BitVec w) : v.toNat % 256 ^ n = v.toNat := by
  refine Nat.mod_eq_of_lt (v.isLt.trans_le ?_)
  rw [show 256 = 2 ^ 8 from rfl, ← Nat.pow_mul]
  exact Nat.pow_le_pow_right Nat.two_pos h

theorem takeLeBits_leBytes {w n : Nat} (h : w ≤ 8 * n) (v : BitVec w) (r : List Bool) :
    takeLeBits w n (bitsOfBytes (leBytes n v.toNat) ++ r) = some (v, r) := by
  simp only [takeLeBits, takeLe_leBytes, toNat_mod_bytes h, BitVec.ofNat_toNat, BitVec.setWidth_eq]

theorem ofNat_beNat_beBytes (v : Word) : BitVec.ofNat 32 (beNat (beBytes 4 v.toNat)) = v := by
  rw [beNat, beBytes, List.reverse_reverse, leNat_leBytes, toNat_mod_bytes (by decide), BitVec.ofNat_toNat,
    BitVec.setWidth_eq]

/-- A part that is there exactly when its flag is set is read back. -/
theorem takeIf_encOpt {α : Type} {f : List Bool → Option (α × List Bool)} {enc : α → List Byte} {o : Option α}
    {flag : Bool} {r : List Bool} (hflag : o.isSome = flag)
    (hf : ∀ a, o = some a → f (bitsOfBytes (enc a) ++ r) = some (a, r)) :
    takeIf flag f (encOpt enc o ++ r) = some (o, r) := by
  subst hflag
  cases o with
  | none => rfl
  | some a => simp [takeIf, encOpt, hf a rfl]

theorem takeLens_flatMap (cl : List (BitVec 3)) (r : List Bool) :
    takeLens cl.length (cl.flatMap (fun v => natBits 3 v.toNat) ++ r) = some (cl, r) := by
  induction cl with
  | nil => rfl
  | cons v cl ih =>
    rw [List.flatMap_cons, List.append_assoc, List.length_cons, takeLens, takeBits_natBits_of_lt v.isLt]
    simp only [ih, BitVec.ofNat_toNat, BitVec.setWidth_eq]

/-- A string of bytes other than zero is read up to the zero after it (R113). -/
theorem takeZString_bitsOfBytes {s : List Byte} (hs : s.all (fun b => b != 0) = true) {fuel : Nat}
    (hf : s.length < fuel) (r : List Bool) : takeZString fuel (bitsOfBytes (s ++ [0]) ++ r) = some (s, r) := by
  induction s generalizing fuel with
  | nil =>
    obtain ⟨fuel, rfl⟩ := Nat.exists_eq_succ_of_ne_zero (Nat.ne_of_gt hf)
    rw [List.nil_append, takeZString, takeByte_bitsOfBytes_cons]; rfl
  | cons b s ih =>
    obtain ⟨fuel, rfl⟩ := Nat.exists_eq_succ_of_ne_zero (Nat.ne_zero_of_lt hf)
    rw [List.all_cons, Bool.and_eq_true, bne_iff_ne] at hs
    have hb : b ≠ 0#8 := hs.1
    rw [List.cons_append, takeZString, takeByte_bitsOfBytes_cons]
    simp only [if_neg hb, ih hs.2 (Nat.lt_of_succ_lt_succ hf)]

/-- The source's own bytes are fuel enough for a string in it (R113). -/
theorem takeZString_wholeBytes {s : List Byte} (hs : s.all (fun b => b != 0) = true) (r : List Bool) :
    (fun b => takeZString (wholeBytes b + 1) b) (bitsOfBytes (s ++ [0]) ++ r) = some (s, r) := by
  refine takeZString_bitsOfBytes hs ?_ r
  simp only [wholeBytes, List.length_append, bitsOfBytes_length, List.length_singleton]
  omega

theorem takeExtra_bitsOfBytes {s : List Byte} (h : s.length < 65536) (r : List Bool) :
    takeExtra (bitsOfBytes (leBytes 2 s.length ++ s) ++ r) = some (s, r) := by
  rw [bitsOfBytes_append, List.append_assoc, takeExtra, takeLe_leBytes, Nat.mod_eq_of_lt (by omega)]
  exact takeBytes_bitsOfBytes s r

/-- The bytes of a varint are read to the one that stops it (R358). -/
theorem takeVarint_bitsOfBytes {k fuel : Nat} (hk : fuel + k = 4) {bs : List Byte} (h : varintShape k bs = true)
    (r : List Bool) : takeVarint (fuel + 1) k (bitsOfBytes bs ++ r) = some (bs, r) := by
  induction bs generalizing k fuel with
  | nil => cases h
  | cons b bs ih =>
    rw [takeVarint, takeByte_bitsOfBytes_cons]
    cases bs with
    | nil =>
      have hstop : varintStops k b = true := h
      simp only [if_pos hstop]; rfl
    | cons c bs =>
      obtain ⟨hgo, hrest⟩ : varintStops k b = false ∧ varintShape (k + 1) (c :: bs) = true := by
        simpa [varintShape] using h
      cases fuel with
      | zero =>
        obtain rfl : k = 4 := by omega
        exact absurd hgo (by simp [varintStops])
      | succ fuel => simp [hgo, ih (k := k + 1) (fuel := fuel) (by omega) hrest]

end Sys2Proof.Proofs


/-! PROOFS. The CORE's own words are read back (O2): each element is the word of a number that gives the element. -/

namespace Sys2Proof.Proofs

open Machine Safety Laws

theorem need_takeBits {k v : Nat} (h : v < 2 ^ k) (r : List Bool) (f : Nat → List Bool → Decoded) :
    need (takeBits k (natBits k v ++ r)) f = f v r := by
  rw [takeBits_natBits_of_lt h, need_some]

/-- An element stands only where the context reads its format (R90). -/
theorem format_of_fits {c : Ctx} {i : Instr} (h : c.fits i = true) : c.format = i.format :=
  eq_of_beq (Bool.and_eq_true_iff.mp h).1

/-- Every command is the word of its `CMD` value (R94). -/
theorem encode_cmd {i : Instr} (h : Format.cmdFmt = i.format) (c : Ctx) :
    ∃ v, v < 2 ^ 4 ∧ encode c i = natBits 4 v ∧ cmdInstr v = i := by
  cases i with
  | nop => exact ⟨0, by decide, rfl, rfl⟩
  | startCompress => exact ⟨1, by decide, rfl, rfl⟩
  | startDecompress => exact ⟨2, by decide, rfl, rfl⟩
  | cancel => exact ⟨3, by decide, rfl, rfl⟩
  | softReset => exact ⟨4, by decide, rfl, rfl⟩
  | cmdReserved5 => exact ⟨5, by decide, rfl, rfl⟩
  | cmdReserved6to7 lo =>
    exact ⟨6 + lo.toNat, by omega, rfl,
      (by decide : ∀ x : BitVec 1, cmdInstr (6 + x.toNat) = .cmdReserved6to7 x) lo⟩
  | cmdReserved8to15 lo =>
    exact ⟨8 + lo.toNat, by omega, rfl,
      (by decide : ∀ x : BitVec 3, cmdInstr (8 + x.toNat) = .cmdReserved8to15 x) lo⟩
  | _ => cases h

/-- Every element of a field of `CFG` is the word of its value (R95). -/
theorem encode_cfg {i : Instr} {f : CfgField} (h : i.cfgField = some f) (c : Ctx) :
    ∃ v, v < 2 ^ f.width ∧ encode c i = natBits f.width v ∧ cfgInstr f v = i := by
  cases i with
  | cfgCodecReserved lo =>
    cases h
    exact ⟨6 + lo.toNat, by simp only [CfgField.width]; omega, rfl,
      (by decide : ∀ x : BitVec 1, cfgInstr .codec (6 + x.toNat) = .cfgCodecReserved x) lo⟩
  | cfgCodecDeflate | cfgCkselNone | cfgTreeStored | cfgLazy0 | cfgIomodeBuffer =>
    cases h; exact ⟨0, by decide, rfl, rfl⟩
  | cfgCodecZlib | cfgCkselCrc32 | cfgTreeFixed | cfgLazy1 | cfgIomodeStream =>
    cases h; exact ⟨1, by decide, rfl, rfl⟩
  | cfgCodecGzip | cfgCkselAdler32 | cfgTreeDynamic => cases h; exact ⟨2, by decide, rfl, rfl⟩
  | cfgCodecLz4 | cfgCkselReserved3 | cfgTreeReserved3 => cases h; exact ⟨3, by decide, rfl, rfl⟩
  | cfgCodecSnappy => cases h; exact ⟨4, by decide, rfl, rfl⟩
  | cfgCodecZstd => cases h; exact ⟨5, by decide, rfl, rfl⟩
  | _ => cases h

/-- The low bits of a number with a register in them. -/
theorem ofNat_add_toNat {w m : Nat} (h : m % 2 ^ w = 0) (x : BitVec w) : BitVec.ofNat w (m + x.toNat) = x := by
  apply BitVec.eq_of_toNat_eq
  rw [BitVec.toNat_ofNat, Nat.add_mod, h, Nat.zero_add, Nat.mod_mod, Nat.mod_eq_of_lt x.isLt]

/-- Every beat is the word of its fields (R61; log entry 9). -/
theorem encode_beat {i : Instr} (h : Format.beatFmt = i.format) (c : Ctx) :
    ∃ v, v < 2 ^ 10 ∧ encode c i = natBits 10 v ∧ beatInstr v = some i := by
  cases i with
  | beatData b =>
    refine ⟨b.toNat, by omega, rfl, ?_⟩
    simp only [beatInstr, Nat.div_eq_of_lt b.isLt, BitVec.ofNat_toNat, BitVec.setWidth_eq]
  | beatDataLast b =>
    have hdiv : (256 + b.toNat) / 256 = 1 := by omega
    refine ⟨256 + b.toNat, by omega, rfl, ?_⟩
    simp only [beatInstr, hdiv, ofNat_add_toNat (w := 8) (m := 256) rfl]
  | beatEndEmpty => exact ⟨768, by decide, rfl, rfl⟩
  | _ => cases h

/-- The number of a token word (R92). -/
theorem tokenWord_toNat {kind off len : Nat} (hk : kind < 4) (ho : off < 2 ^ 17) (hl : len < 2 ^ 16) :
    (tokenWord kind off len).toNat = kind * 2 ^ 38 + (off * 2 ^ 16 + len) := by
  rw [tokenWord, BitVec.toNat_ofNat]
  omega

/-- Kind and body of a token word (R92). -/
theorem token_parts (kind : Nat) {body : Nat} (h : body < 2 ^ 38) :
    (kind * 2 ^ 38 + body) / 2 ^ 38 = kind ∧ (kind * 2 ^ 38 + body) % 2 ^ 38 = body := by
  omega

/-- The offset in the body of a match token (R92). -/
theorem token_off (off : Nat) {len : Nat} (h : len < 2 ^ 16) : (off * 2 ^ 16 + len) / 65536 = off := by omega

/-- Every token is a word that gives it (R92). -/
theorem encode_token {i : Instr} (h : Format.tokenFmt = i.format) (c : Ctx) :
    ∃ v, v < 2 ^ 40 ∧ encode c i = natBits 40 v ∧ tokenInstr v = some i := by
  cases i with
  | lit b =>
    have hw := tokenWord_toNat (kind := 0) (off := 0) (len := b.toNat) (by decide) (by decide) (by omega)
    obtain ⟨hd, hm⟩ := token_parts 0 (body := 0 * 2 ^ 16 + b.toNat) (by omega)
    have hb : BitVec.ofNat 8 (0 * 2 ^ 16 + b.toNat) = b := ofNat_add_toNat rfl b
    refine ⟨_, (tokenWord 0 0 b.toNat).isLt, rfl, ?_⟩
    simp only [tokenInstr, hw, hd, hm, hb]
    exact if_pos (by omega)
  | matchTok off len =>
    have hw := tokenWord_toNat (kind := 1) (by decide) off.isLt len.isLt
    obtain ⟨hd, hm⟩ := token_parts 1 (body := off.toNat * 2 ^ 16 + len.toNat) (by omega)
    refine ⟨_, (tokenWord 1 off.toNat len.toNat).isLt, rfl, ?_⟩
    have hlen : BitVec.ofNat 16 (off.toNat * 2 ^ 16 + len.toNat) = len :=
      ofNat_add_toNat (Nat.mul_mod_left off.toNat (2 ^ 16)) len
    simp only [tokenInstr, hw, hd, hm, token_off off.toNat len.isLt, hlen, BitVec.ofNat_toNat, BitVec.setWidth_eq]
    exact if_pos (by omega)
  | eob => exact ⟨_, (tokenWord 2 0 0).isLt, rfl, by decide⟩
  | tokenReserved x =>
    obtain ⟨hd, hm⟩ := token_parts 3 x.isLt
    refine ⟨3 * 2 ^ 38 + x.toNat, by omega, rfl, ?_⟩
    simp only [tokenInstr, hd, hm, BitVec.ofNat_toNat, BitVec.setWidth_eq]
  | _ => cases h

/-- Every DEFLATE block header is the word of its three bits (R100). -/
theorem encode_dflHdr {i : Instr} (h : Format.dflHdrFmt = i.format) (c : Ctx) :
    ∃ v, v < 2 ^ 3 ∧ encode c i = natBits 3 v ∧ dflHdrInstr v = i := by
  cases i with
  | dflBlockStored f => exact ⟨f.toNat, by cases f <;> decide, rfl, by cases f <;> rfl⟩
  | dflBlockFixed f => exact ⟨2 + f.toNat, by cases f <;> decide, rfl, by cases f <;> rfl⟩
  | dflBlockDynamic f => exact ⟨4 + f.toNat, by cases f <;> decide, rfl, by cases f <;> rfl⟩
  | dflBlockReserved f => exact ⟨6 + f.toNat, by cases f <;> decide, rfl, by cases f <;> rfl⟩
  | _ => cases h

/-- Settles O2: a word of the CORE's own formats has a fixed width, so its number is read back, and the number gives
the element. -/
theorem ownFormatsRoundTrip : Obligations.OwnFormatsRoundTrip := by
  intro c i rest hc hfits
  have hfmt := format_of_fits hfits
  obtain rfl | ⟨f, rfl⟩ | rfl | rfl | rfl := hc
  · obtain ⟨v, hv, he, hi⟩ := encode_cmd hfmt .cmd
    rw [he, decode, need_takeBits hv, hi]
  · have hfield : i.cfgField = some f := eq_of_beq (Bool.and_eq_true_iff.mp hfits).2
    obtain ⟨v, hv, he, hi⟩ := encode_cfg hfield (.cfg f)
    rw [he, decode, need_takeBits hv, hi]
  · obtain ⟨v, hv, he, hi⟩ := encode_beat hfmt .beat
    rw [he, decode, need_takeBits hv]
    simp only [hi]
  · obtain ⟨v, hv, he, hi⟩ := encode_token hfmt .token
    rw [he, decode, need_takeBits hv]
    simp only [hi]
  · obtain ⟨v, hv, he, hi⟩ := encode_dflHdr hfmt .dflHdr
    rw [he, decode, need_takeBits hv, hi]

end Sys2Proof.Proofs


/-! PROOFS. The elements of DEFLATE bodies and of zlib, GZIP and LZ4 frames are read back (O3). -/

namespace Sys2Proof.Proofs

open Machine Safety Laws

theorem bitsOfBytes_nil : bitsOfBytes [] = [] := rfl

theorem encOpt_some {α : Type} (f : α → List Byte) (a : α) : encOpt f (some a) = bitsOfBytes (f a) := rfl

/-! ### DEFLATE bodies (R101, R107) -/

theorem decodeStored_encode (pad : Nat) {len nlen : BitVec 16} {data : List Byte} (rest : List Bool)
    (hwf : Instr.wellFormed (.dflStoredBody len nlen data) = true) :
    decodeStored pad (encode (.dflStored pad) (.dflStoredBody len nlen data) ++ rest) =
      .ok (.dflStoredBody len nlen data) rest := by
  have hskip (r : List Bool) : (List.replicate pad false ++ r).drop pad = r :=
    List.drop_left' List.length_replicate
  simp only [encode, Ctx.padding, List.append_assoc, decodeStored, hskip,
    takeLeBits_leBytes (show 16 ≤ 8 * 2 by decide), need_some]
  simp only [Instr.wellFormed] at hwf
  split at hwf
  · next hn => rw [if_pos hn, takeBytes_bitsOfBytes_of_length (eq_of_beq hwf), need_some]
  · next hn =>
    obtain rfl := List.isEmpty_iff.mp hwf
    rw [if_neg hn]; rfl

theorem decodeDyn_encode {hlit hdist : BitVec 5} {hclen : BitVec 4} {cl : List (BitVec 3)} (rest : List Bool)
    (hwf : Instr.wellFormed (.dflDynHeader hlit hdist hclen cl) = true) :
    decodeDyn (encode .dflDyn (.dflDynHeader hlit hdist hclen cl) ++ rest) =
      .ok (.dflDynHeader hlit hdist hclen cl) rest := by
  simp only [encode, List.append_assoc, decodeDyn, need_takeBits hlit.isLt, need_takeBits hdist.isLt,
    need_takeBits hclen.isLt, BitVec.ofNat_toNat, BitVec.setWidth_eq]
  simp only [Instr.wellFormed] at hwf
  split at hwf
  · next hbad =>
    obtain rfl := List.isEmpty_iff.mp hwf
    rw [if_pos hbad]; rfl
  · next hok => rw [if_neg hok, ← eq_of_beq hwf, takeLens_flatMap, need_some]

/-! ### zlib and GZIP (R110 to R114) -/

theorem decode_zlibTrailer (v : Word) (rest : List Bool) :
    decode .zlibTrl (encode .zlibTrl (.zlibTrailer v) ++ rest) = .ok (.zlibTrailer v) rest := by
  have hlen : (beBytes 4 v.toNat).length = 4 := by rw [beBytes, List.length_reverse, leBytes_length]
  rw [decode, encode, takeBytes_bitsOfBytes_of_length hlen, need_some, ofNat_beNat_beBytes]

theorem decodeGzip_encode {id1 id2 cm flg xfl os : Byte} {mtime : Word} {extra name comment : Option (List Byte)}
    {crc16 : Option (BitVec 16)} (rest : List Bool)
    (hwf : gzipOptsOk id1 id2 cm flg extra name comment crc16 = true) :
    decodeGzip (encode .gzipHdr (.gzipHeader id1 id2 cm flg mtime xfl os extra name comment crc16) ++ rest) =
      .ok (.gzipHeader id1 id2 cm flg mtime xfl os extra name comment crc16) rest := by
  simp only [encode, List.append_assoc, decodeGzip, takeByte_bitsOfBytes_cons, need_some, bitsOfBytes_nil,
    List.nil_append, takeLeBits_leBytes (show 32 ≤ 8 * 4 by decide)]
  unfold gzipOptsOk at hwf
  split at hwf
  · next hbad =>
    simp only [Bool.and_eq_true, Option.isNone_iff_eq_none] at hwf
    obtain ⟨⟨⟨rfl, rfl⟩, rfl⟩, rfl⟩ := hwf
    rw [if_pos hbad]; rfl
  · next hok =>
    simp only [Bool.and_eq_true, beq_iff_eq, decide_eq_true_eq] at hwf
    obtain ⟨⟨⟨⟨⟨⟨hextra, hlen⟩, hname⟩, hnz⟩, hcomment⟩, hcz⟩, hcrc⟩ := hwf
    rw [if_neg hok, takeIf_encOpt hextra (by rintro a rfl; exact takeExtra_bitsOfBytes hlen _), need_some,
      takeIf_encOpt hname (by rintro a rfl; exact takeZString_wholeBytes hnz _), need_some,
      takeIf_encOpt hcomment (by rintro a rfl; exact takeZString_wholeBytes hcz _), need_some,
      takeIf_encOpt hcrc (fun a _ => takeLeBits_leBytes (by decide) a _), need_some]

theorem decodeGzipTrl_encode {crc v : Word} {isize : Option Word} (rest : List Bool)
    (hfits : isize.isSome = (v == crc)) :
    decodeGzipTrl crc (encode (.gzipTrl crc) (.gzipTrailer v isize) ++ rest) = .ok (.gzipTrailer v isize) rest := by
  simp only [encode, List.append_assoc, decodeGzipTrl, takeLeBits_leBytes (show 32 ≤ 8 * 4 by decide), need_some]
  cases isize with
  | none => rw [if_neg (beq_eq_false_iff_ne.mp hfits.symm)]; rfl
  | some n => rw [if_pos (beq_iff_eq.mp hfits.symm), encOpt_some, takeLeBits_leBytes (by decide), need_some]

/-! ### LZ4 frames (R115, R116) -/

/-- The sixteen skippable magics are words that differ from the frame magic and hold their number (R115). -/
theorem lz4SkipWord_add (lo : BitVec 4) : ∃ m : Word, lz4SkipWord.toNat + lo.toNat = m.toNat ∧ m ≠ lz4MagicWord ∧
    m.toNat / 16 = lz4SkipWord.toNat / 16 ∧ m.setWidth 4 = lo := by
  have hall : ∀ x : BitVec 4, let m := lz4SkipWord + x.setWidth 32
      lz4SkipWord.toNat + x.toNat = m.toNat ∧ m ≠ lz4MagicWord ∧ m.toNat / 16 = lz4SkipWord.toNat / 16 ∧
        m.setWidth 4 = x := by decide
  exact ⟨_, hall lo⟩

theorem decode_lz4Magic (rest : List Bool) :
    decode .lz4Magic (encode .lz4Magic .lz4Magic ++ rest) = .ok .lz4Magic rest := by
  rw [decode, decodeMagic, encode, takeLeBits_leBytes (by decide), need_some, if_pos rfl]

theorem decode_lz4MagicSkippable (lo : BitVec 4) (rest : List Bool) :
    decode .lz4Magic (encode .lz4Magic (.lz4MagicSkippable lo) ++ rest) = .ok (.lz4MagicSkippable lo) rest := by
  obtain ⟨m, hm, hne, hdiv, hlo⟩ := lz4SkipWord_add lo
  rw [decode, decodeMagic, encode, hm, takeLeBits_leBytes (by decide), need_some, if_neg hne, if_pos hdiv, hlo]

theorem decodeDesc_encode {flg : Byte} {bd : Option Byte} {csize : Option (BitVec 64)} {dict : Option Word}
    {hc : Option Byte} (rest : List Bool) (hwf : lz4DescOk flg bd csize dict hc = true) :
    decodeDesc (encode .lz4Desc (.lz4Descriptor flg bd csize dict hc) ++ rest) =
      .ok (.lz4Descriptor flg bd csize dict hc) rest := by
  simp only [encode, List.append_assoc, decodeDesc, takeByte_bitsOfBytes_cons, need_some, bitsOfBytes_nil,
    List.nil_append]
  unfold lz4DescOk at hwf
  split at hwf
  · next hbad =>
    simp only [Bool.and_eq_true, Option.isNone_iff_eq_none] at hwf
    obtain ⟨⟨⟨rfl, rfl⟩, rfl⟩, rfl⟩ := hwf
    rw [if_pos hbad]; rfl
  · next hok =>
    rw [if_neg hok]
    cases bd with
    | none => cases hwf
    | some b =>
      simp only [encOpt_some, takeByte_bitsOfBytes_cons, need_some, bitsOfBytes_nil, List.nil_append]
      dsimp only at hwf
      split at hwf
      · next hbad =>
        simp only [Bool.and_eq_true, Option.isNone_iff_eq_none] at hwf
        obtain ⟨⟨rfl, rfl⟩, rfl⟩ := hwf
        rw [if_pos hbad]; rfl
      · next hok =>
        simp only [Bool.and_eq_true, beq_iff_eq] at hwf
        obtain ⟨⟨hcsize, hdict⟩, hhc⟩ := hwf
        obtain ⟨x, rfl⟩ := Option.isSome_iff_exists.mp hhc
        rw [if_neg hok, takeIf_encOpt hcsize (fun a _ => takeLeBits_leBytes (by decide) a _), need_some,
          takeIf_encOpt hdict (fun a _ => takeLeBits_leBytes (by decide) a _), need_some, encOpt_some,
          takeByte_bitsOfBytes_cons,
          need_some, bitsOfBytes_nil, List.nil_append]

/-- The size word of a data block (R116). -/
def blkWord (stored : Bool) (size : BitVec 31) : Word :=
  BitVec.ofNat 32 ((if stored then 2147483648 else 0) + size.toNat)

theorem blkWord_toNat (stored : Bool) (size : BitVec 31) :
    (blkWord stored size).toNat = (if stored then 2147483648 else 0) + size.toNat := by
  rw [blkWord, BitVec.toNat_ofNat]
  split <;> omega

theorem blkWord_setWidth (stored : Bool) (size : BitVec 31) : (blkWord stored size).setWidth 31 = size := by
  apply BitVec.eq_of_toNat_eq
  rw [BitVec.toNat_setWidth, blkWord_toNat]
  split <;> omega

theorem blkWord_getLsbD (stored : Bool) (size : BitVec 31) : (blkWord stored size).getLsbD 31 = stored := by
  rw [BitVec.getLsbD, blkWord_toNat, Nat.testBit_eq_decide_div_mod_eq]
  have hlt := size.isLt
  cases stored
  · exact decide_eq_false (by rw [if_neg Bool.false_ne_true]; omega)
  · exact decide_eq_true (by rw [if_pos rfl]; omega)

/-- Only a compressed block of size 0 has the word of the end mark (R116). -/
theorem blkWord_ne_zero {stored : Bool} {size : BitVec 31} (h : stored = true ∨ size ≠ 0) :
    blkWord stored size ≠ 0#32 := by
  intro hz
  have h0 : (if stored then 2147483648 else 0) + size.toNat = 0 := by rw [← blkWord_toNat, hz]; rfl
  obtain rfl | hsize := h
  · rw [if_pos rfl] at h0; omega
  · exact hsize (BitVec.eq_of_toNat_eq (Nat.eq_zero_of_add_eq_zero_left h0))

theorem decodeBlk_encBlk {m : Nat} {hasCk stored : Bool} {size : BitVec 31} {data : List Byte} {ck : Option Word}
    (rest : List Bool) (hsize : stored = true ∨ size ≠ 0) (hfits : blkFits m hasCk size data ck = true) :
    decodeBlk m hasCk (encBlk stored size data ck ++ rest) = .ok (blockInstr stored size data ck) rest := by
  simp only [encBlk, ← blkWord_toNat, List.append_assoc, decodeBlk, takeLeBits_leBytes (show 32 ≤ 8 * 4 by decide),
    need_some, if_neg (blkWord_ne_zero hsize), blkWord_setWidth, blkWord_getLsbD]
  unfold blkFits at hfits
  split at hfits
  · next hbig =>
    simp only [Bool.and_eq_true, Option.isNone_iff_eq_none, List.isEmpty_iff] at hfits
    obtain ⟨rfl, rfl⟩ := hfits
    rw [if_pos hbig]; rfl
  · next hok =>
    simp only [Bool.and_eq_true, beq_iff_eq] at hfits
    obtain ⟨hdata, hck⟩ := hfits
    rw [if_neg hok, takeBytes_bitsOfBytes_of_length hdata, need_some,
      takeIf_encOpt hck (fun a _ => takeLeBits_leBytes (by decide) a _), need_some]

/-- Settles O3: in each context the format and the parts of the element leave the reader one way. -/
theorem framesRoundTrip : Obligations.FramesRoundTrip := by
  intro c i rest hc _ hwf hfits
  have hfmt := format_of_fits hfits
  have hparts := (Bool.and_eq_true_iff.mp hfits).2
  obtain ⟨p, rfl⟩ | rfl | rfl | rfl | rfl | ⟨v, rfl⟩ | rfl | rfl | ⟨m, ck, rfl⟩ | rfl := hc
  · cases i with
    | dflStoredBody len nlen data => exact decodeStored_encode p rest hwf
    | _ => cases hfmt
  · cases i with
    | dflDynHeader hlit hdist hclen cl => exact decodeDyn_encode rest hwf
    | _ => cases hfmt
  · cases i with
    | zlibHeader cmf flg =>
      simp only [encode, decode, takeByte_bitsOfBytes_cons, need_some, bitsOfBytes_nil, List.nil_append]
    | _ => cases hfmt
  · cases i with
    | zlibTrailer v => exact decode_zlibTrailer v rest
    | _ => cases hfmt
  · cases i with
    | gzipHeader => exact decodeGzip_encode rest hwf
    | _ => cases hfmt
  · cases i with
    | gzipTrailer w isize => exact decodeGzipTrl_encode rest (eq_of_beq hparts)
    | _ => cases hfmt
  · cases i with
    | lz4Magic => exact decode_lz4Magic rest
    | lz4MagicSkippable lo => exact decode_lz4MagicSkippable lo rest
    | lz4Descriptor => cases hparts
    | _ => cases hfmt
  · cases i with
    | lz4Descriptor => exact decodeDesc_encode rest hwf
    | lz4Magic | lz4MagicSkippable => cases hparts
    | _ => cases hfmt
  · cases i with
    | lz4BlockCompressed size data k =>
      exact decodeBlk_encBlk rest (.inr (bne_iff_ne.mp (Bool.and_eq_true_iff.mp hwf).1)) hparts
    | lz4BlockStored size data k => exact decodeBlk_encBlk rest (.inl rfl) hparts
    | lz4Endmark => rfl
    | lz4ContentChecksum => cases hparts
    | _ => cases hfmt
  · cases i with
    | lz4ContentChecksum v => simp only [encode, decode, takeLeBits_leBytes (show 32 ≤ 8 * 4 by decide), need_some]
    | lz4BlockCompressed | lz4BlockStored | lz4Endmark => cases hparts
    | _ => cases hfmt

end Sys2Proof.Proofs


/-! PROOFS. LZ4 sequences and Snappy elements are read back (O4). -/

namespace Sys2Proof.Proofs

open Machine Safety Laws

/-! ### LZ4 sequences (R117, R118, R314, R315) -/

/-- The field and escape bytes the encoder lays for a length stand for it (R118, R314). -/
theorem lz4LengthBytes_lz4Ext (v : Nat) : Lz4LengthBytes (min v 15) (if 15 ≤ v then lz4Ext v else []) v := by
  by_cases hv : 15 ≤ v
  · have hlt : (v - 15) % 255 < 255 := Nat.mod_lt _ (by decide)
    have hb : (BitVec.ofNat 8 ((v - 15) % 255)).toNat = (v - 15) % 255 := by rw [BitVec.toNat_ofNat]; omega
    refine .inr ⟨Nat.min_eq_right hv, (v - 15) / 255, BitVec.ofNat 8 ((v - 15) % 255), ?_, if_pos hv, ?_⟩
    · intro h
      have h255 : (v - 15) % 255 = 255 := by rw [← hb, h]; rfl
      omega
    · omega
  · exact .inl ⟨by omega, if_neg hv, by omega⟩

/-- The token byte holds the two length fields (R117). -/
theorem lz4Token_fields (n m : Nat) :
    (BitVec.ofNat 8 (min n 15 * 16 + min m 15)).toNat / 16 = min n 15 ∧
    (BitVec.ofNat 8 (min n 15 * 16 + min m 15)).toNat % 16 = min m 15 := by
  rw [BitVec.toNat_ofNat]
  omega

/-- The two bytes of an offset (R117). -/
theorem leBytes_offset (off : BitVec 16) :
    ∃ o0 o1, leBytes 2 off.toNat = [o0, o1] ∧ BitVec.ofNat 16 (leNat [o0, o1]) = off := by
  refine ⟨_, _, rfl, (congrArg (BitVec.ofNat 16) (leNat_leBytes 2 off.toNat)).trans ?_⟩
  rw [toNat_mod_bytes (by decide), BitVec.ofNat_toNat, BitVec.setWidth_eq]

theorem decodeSeqBytes_match (lits : List Byte) (off : BitVec 16) (m : Nat) (tail : List Byte) :
    decodeSeqBytes (lz4SeqBytes lits (some (off.toNat, m)) ++ tail) =
      .ok (.lz4Sequence lits (some (off, m))) (bitsOfBytes tail) := by
  obtain ⟨hll, hm⟩ := lz4Token_fields lits.length m
  obtain ⟨o0, o1, ho, hoff⟩ := leBytes_offset off
  simp only [lz4SeqBytes, ho, List.cons_append, List.append_assoc, List.nil_append, decodeSeqBytes, hll, hm,
    lz4ReadLen_bytes (lz4LengthBytes_lz4Ext lits.length)]
  rw [if_neg (by simp), List.drop_left]
  simp only [lz4ReadLen_bytes (lz4LengthBytes_lz4Ext m), List.take_left, hoff]

theorem decodeSeqBytes_last (lits : List Byte) :
    decodeSeqBytes (lz4SeqBytes lits none) = .ok (.lz4LastSequence lits) [] := by
  obtain ⟨hll, -⟩ := lz4Token_fields lits.length 0
  simp only [lz4SeqBytes, List.append_nil, decodeSeqBytes, hll, lz4ReadLen_bytes (lz4LengthBytes_lz4Ext lits.length)]
  rw [if_neg (Nat.lt_irrefl _), List.drop_length]
  simp only [List.take_length]

/-! ### Snappy (R120, R121, R122) -/

/-- A tag byte holds its kind and the value above it (R121). -/
theorem snpTag_fields {kind v : Nat} (hk : kind < 4) (hv : v < 64) :
    (BitVec.ofNat 8 (v * 4 + kind)).toNat % 4 = kind ∧ (BitVec.ofNat 8 (v * 4 + kind)).toNat / 4 = v := by
  rw [BitVec.toNat_ofNat]
  omega

theorem decodeTag_literal {room : Nat} {m : BitVec 6} {ext data : List Byte} (rest : List Bool)
    (hext : ext.length = snpExtLen m) (hdata : data = [] ∨ data.length = snpLitLen m ext)
    (hroom : room < snpLitLen m ext ↔ data = []) :
    decodeTag room (bitsOfBytes (BitVec.ofNat 8 (m.toNat * 4) :: (ext ++ data)) ++ rest) =
      .ok (.snpLiteral m ext data) rest := by
  obtain ⟨hkind, hval⟩ := snpTag_fields (kind := 0) (by decide) m.isLt
  rw [Nat.add_zero] at hkind hval
  simp only [decodeTag, takeByte_bitsOfBytes_cons, need_some, hkind, hval, BitVec.ofNat_toNat, BitVec.setWidth_eq,
    bitsOfBytes_append, List.append_assoc, takeBytes_bitsOfBytes_of_length hext]
  by_cases hr : room < snpLitLen m ext
  · obtain rfl := hroom.mp hr
    rw [if_pos hr]; rfl
  · rw [if_neg hr, takeBytes_bitsOfBytes_of_length (hdata.resolve_left (mt hroom.mpr hr)), need_some]

theorem decodeTag_copy1 (room : Nat) (len3 : BitVec 3) (off : BitVec 11) (rest : List Bool) :
    decodeTag room (encode (.snpTag room) (.snpCopy1 len3 off) ++ rest) = .ok (.snpCopy1 len3 off) rest := by
  obtain ⟨hkind, hval⟩ := snpTag_fields (kind := 1) (v := off.toNat / 256 * 8 + len3.toNat) (by decide) (by omega)
  rw [show (off.toNat / 256 * 8 + len3.toNat) * 4 + 1 = off.toNat / 256 * 32 + len3.toNat * 4 + 1 by omega]
    at hkind hval
  have hlen : BitVec.ofNat 3 (off.toNat / 256 * 8 + len3.toNat) = len3 :=
    ofNat_add_toNat (Nat.mul_mod_left _ (2 ^ 3)) len3
  have hoff : BitVec.ofNat 11 ((BitVec.ofNat 8 (off.toNat / 256 * 32 + len3.toNat * 4 + 1)).toNat / 32 * 256 +
      (BitVec.ofNat 8 off.toNat).toNat) = off := by
    apply BitVec.eq_of_toNat_eq
    simp only [BitVec.toNat_ofNat]
    omega
  simp only [encode, decodeTag, takeByte_bitsOfBytes_cons, need_some, hkind, hval, hlen, hoff, bitsOfBytes_nil,
    List.nil_append]

theorem decodeTag_copy2 (room : Nat) (len6 : BitVec 6) (off : BitVec 16) (rest : List Bool) :
    decodeTag room (encode (.snpTag room) (.snpCopy2 len6 off) ++ rest) = .ok (.snpCopy2 len6 off) rest := by
  obtain ⟨hkind, hval⟩ := snpTag_fields (kind := 2) (by decide) len6.isLt
  simp only [encode, decodeTag, takeByte_bitsOfBytes_cons, need_some, hkind, hval, takeLe_leBytes,
    toNat_mod_bytes (show 16 ≤ 8 * 2 by decide), BitVec.ofNat_toNat, BitVec.setWidth_eq]

theorem decodeTag_copy4 (room : Nat) (len6 : BitVec 6) (off : BitVec 32) (rest : List Bool) :
    decodeTag room (encode (.snpTag room) (.snpCopy4 len6 off) ++ rest) = .ok (.snpCopy4 len6 off) rest := by
  obtain ⟨hkind, hval⟩ := snpTag_fields (kind := 3) (by decide) len6.isLt
  simp only [encode, decodeTag, takeByte_bitsOfBytes_cons, need_some, hkind, hval, takeLe_leBytes,
    toNat_mod_bytes (show 32 ≤ 8 * 4 by decide), BitVec.ofNat_toNat, BitVec.setWidth_eq]

theorem decode_snpTag {room : Nat} {i : Instr} (rest : List Bool) (hwf : i.wellFormed = true)
    (hfits : (Ctx.snpTag room).fits i = true) :
    decode (.snpTag room) (encode (.snpTag room) i ++ rest) = .ok i rest := by
  have hfmt := format_of_fits hfits
  have hparts := (Bool.and_eq_true_iff.mp hfits).2
  cases i with
  | snpLiteral m ext data =>
    simp only [Instr.wellFormed, Bool.and_eq_true, Bool.or_eq_true, beq_iff_eq, List.isEmpty_iff] at hwf
    refine decodeTag_literal rest hwf.1 hwf.2 ?_
    dsimp only at hparts
    split at hparts
    · next hr => exact iff_of_true hr (List.isEmpty_iff.mp hparts)
    · next hr => exact iff_of_false hr (by rintro rfl; cases hparts)
  | snpCopy1 len3 off => exact decodeTag_copy1 room len3 off rest
  | snpCopy2 len6 off => exact decodeTag_copy2 room len6 off rest
  | snpCopy4 len6 off => exact decodeTag_copy4 room len6 off rest
  | _ => cases hfmt

/-- Settles O4: an LZ4 block is read by bytes, and a length field's escape bytes end before what follows; a Snappy
element is read by its tag. -/
theorem byteElementsRoundTrip : Obligations.ByteElementsRoundTrip := by
  refine ⟨fun lits off m tail => ?_, fun lits => ?_, fun c i rest hc hwf hfits => ?_⟩
  · rw [encode, ← bitsOfBytes_append, decode, sourceBytes_bitsOfBytes]
    exact decodeSeqBytes_match lits off m tail
  · rw [encode, decode, sourceBytes_bitsOfBytes]
    exact decodeSeqBytes_last lits
  · obtain rfl | ⟨room, rfl⟩ := hc
    · have hfmt := format_of_fits hfits
      cases i with
      | snpPreamble bs => rw [decode, encode, takeVarint_bitsOfBytes (k := 0) (fuel := 4) rfl hwf, need_some]
      | _ => cases hfmt
    · exact decode_snpTag rest hwf hfits

end Sys2Proof.Proofs


/-! PROOFS. Symbols are read back under a tree with no code at the beginning of another (O5): the loop of `HUF.DEC` meets no other code before the
symbol's own. -/

namespace Sys2Proof.Proofs

open Machine Safety Laws

/-! ### The symbol of a code (R214) -/

theorem firstIdx_eq_findIdx? {α : Type} (p : α → Bool) (as : List α) : firstIdx p as = as.findIdx? p := by
  induction as with
  | nil => rfl
  | cons a as ih => rw [firstIdx, List.findIdx?_cons, ih]

theorem sym_some {t : Tree} {l c b : Nat} (h : t.sym l c = some b) :
    b < t.lens.length ∧ t.lens.getD b 0 = l ∧ t.codes.getD b 0 = c := by
  rw [Tree.sym, firstIdx_eq_findIdx?, List.findIdx?_eq_some_iff_getElem] at h
  obtain ⟨hb, hp, -⟩ := h
  have hlt : b < t.lens.length ∧ b < t.codes.length := by simpa [List.length_zip] using hb
  simp only [List.getElem_zip, Bool.and_eq_true, beq_iff_eq] at hp
  simpa [List.getD_eq_getElem?_getD, hlt] using hp

theorem sym_isSome {t : Tree} {a : Nat} (hlen : t.codes.length = t.lens.length) (ha : a < t.lens.length) :
    (t.sym (t.lens.getD a 0) (t.codes.getD a 0)).isSome = true := by
  rw [Tree.sym, firstIdx_eq_findIdx?, List.findIdx?_isSome, List.any_eq_true]
  have hc : a < t.codes.length := hlen ▸ ha
  refine ⟨(t.lens[a], t.codes[a]), List.mem_iff_getElem.mpr ⟨a, by simp [ha, hc], by simp⟩, ?_⟩
  simp [List.getD_eq_getElem?_getD, ha, hc]

theorem lt_length_of_code {t : Tree} {a : Nat} (ha : t.lens.getD a 0 ≠ 0) : a < t.lens.length := by
  by_contra h
  exact ha (List.getD_eq_default _ _ (Nat.le_of_not_lt h))

/-- The first bits of a symbol's code are the code of no other symbol (R209, R214). -/
theorem sym_of_first_bits {t : Tree} {a b l : Nat} (ht : TreeOk t) (ha : t.lens.getD a 0 ≠ 0) (hl : l ≠ 0)
    (hle : l ≤ t.lens.getD a 0) (h : t.sym l (t.codes.getD a 0 / 2 ^ (t.lens.getD a 0 - l)) = some b) :
    b = a ∧ t.lens.getD a 0 = l := by
  obtain ⟨-, -, hfree⟩ := ht
  obtain ⟨hb, rfl, hcode⟩ := sym_some h
  have hba : b = a := by
    by_contra hne
    exact hfree b a hb (lt_length_of_code ha) hne hl ha hle hcode.symm
  exact ⟨hba, by rw [hba]⟩

theorem sym_code {t : Tree} {a : Nat} (ht : TreeOk t) (ha : t.lens.getD a 0 ≠ 0) :
    t.sym (t.lens.getD a 0) (t.codes.getD a 0) = some a := by
  obtain ⟨b, hb⟩ := Option.isSome_iff_exists.mp (sym_isSome ht.1 (lt_length_of_code ha))
  have h := sym_of_first_bits (b := b) ht ha ha (Nat.le_refl _) (by rwa [Nat.sub_self, Nat.pow_zero, Nat.div_one])
  rw [hb, h.1]

theorem sym_none_of_lt {t : Tree} {a l : Nat} (ht : TreeOk t) (ha : t.lens.getD a 0 ≠ 0) (hl : l ≠ 0)
    (hlt : l < t.lens.getD a 0) : t.sym l (t.codes.getD a 0 / 2 ^ (t.lens.getD a 0 - l)) = none := by
  rw [Option.eq_none_iff_forall_ne_some]
  intro b hb
  exact Nat.ne_of_gt hlt (sym_of_first_bits ht ha hl (Nat.le_of_lt hlt) hb).2

/-! ### Reading a code (R71, R210, R215) -/

theorem natBits_succ (k v : Nat) : natBits (k + 1) v = natBits k v ++ [v / 2 ^ k % 2 == 1] := by
  induction k generalizing v with
  | zero => simp [natBits]
  | succ k ih => rw [natBits, ih, natBits, List.cons_append, Nat.div_div_eq_div_mul, Nat.pow_succ']

theorem codeBits_succ (k v : Nat) : codeBits (k + 1) v = (v / 2 ^ k % 2 == 1) :: codeBits k v := by
  rw [codeBits, natBits_succ, List.reverse_append]; rfl

/-- One more bit of a code (R215). -/
theorem code_step (k v : Nat) : 2 * (v / 2 ^ (k + 1)) + (v / 2 ^ k % 2 == 1).toNat = v / 2 ^ k := by
  have hb : (v / 2 ^ k % 2 == 1).toNat = v / 2 ^ k % 2 := by
    rcases Nat.mod_two_eq_zero_or_one (v / 2 ^ k) with h | h <;> simp [h]
  rw [hb, Nat.pow_succ, ← Nat.div_div_eq_div_mul, Nat.div_add_mod]

theorem le_foldl_max (ns : List Nat) (m : Nat) : m ≤ ns.foldl max m ∧ ∀ n ∈ ns, n ≤ ns.foldl max m := by
  induction ns generalizing m with
  | nil => exact ⟨Nat.le_refl m, nofun⟩
  | cons x ns ih =>
    obtain ⟨h1, h2⟩ := ih (max m x)
    refine ⟨(Nat.le_max_left m x).trans h1, fun n hn => ?_⟩
    obtain rfl | hn := List.mem_cons.mp hn
    · exact (Nat.le_max_right m n).trans h1
    · exact h2 n hn

theorem getD_le_maxLen {lens : List Nat} {a : Nat} (ha : a < lens.length) : lens.getD a 0 ≤ maxLen lens := by
  rw [List.getD_eq_getElem _ _ ha]
  exact (le_foldl_max lens 0).2 _ (List.getElem_mem ha)

/-- With `k` bits of the code of `a` still to come, the loop reads them and gives `a` (R215). -/
theorem decSymLoop_codeBits {t : Tree} {a : Nat} (ht : TreeOk t) (ha : t.lens.getD a 0 ≠ 0) (r : List Bool)
    {k n l : Nat} (hk : k ≠ 0) (hl : k + l = t.lens.getD a 0) (hn : k ≤ n) :
    decSymLoop t n l (t.codes.getD a 0 / 2 ^ k) (codeBits k (t.codes.getD a 0) ++ r) = .sym a r := by
  induction k generalizing n l with
  | zero => exact absurd rfl hk
  | succ k ih =>
    obtain ⟨n, rfl⟩ := Nat.exists_eq_succ_of_ne_zero (Nat.ne_zero_of_lt hn)
    rw [codeBits_succ, List.cons_append, decSymLoop, code_step]
    have hsub : t.lens.getD a 0 - (l + 1) = k := by omega
    by_cases hk0 : k = 0
    · subst hk0
      have hlast : l + 1 = t.lens.getD a 0 := by omega
      rw [Nat.pow_zero, Nat.div_one, hlast, sym_code ht ha]; rfl
    · have hnone := sym_none_of_lt ht ha (Nat.succ_ne_zero l) (by omega)
      rw [hsub] at hnone
      rw [hnone]
      exact ih hk0 (by omega) (Nat.le_of_succ_le_succ hn)

/-- `HUF.DEC` reads back what `HUF.ENC` lays (R210, R215). -/
theorem decSym_symBits {t : Tree} {a : Nat} (ht : TreeOk t) (ha : t.lens.getD a 0 ≠ 0) (r : List Bool) :
    decSym t (symBits t a ++ r) = .sym a r := by
  have h := decSymLoop_codeBits ht ha r (n := maxLen t.lens) (l := 0) ha (Nat.add_zero _)
    (getD_le_maxLen (lt_length_of_code ha))
  rwa [Nat.div_eq_of_lt (ht.2.1 a)] at h

/-! ### The elements of the three alphabets (R102, R104, R105, R108) -/

/-- An element is its symbol with an extra value within the symbol's bits, and is laid as such. -/
def IsSymbol (extra : Nat → Nat) (mk : Nat → Nat → Option Instr) (i : Instr) : Prop :=
  ∃ e, e < 2 ^ extra i.symbol ∧ mk i.symbol e = some i ∧ ∀ c, encode c i = encSym c i.symbol e (extra i.symbol)

theorem isSymbol_plain {extra : Nat → Nat} {mk : Nat → Nat → Option Instr} {i : Instr} (hx : extra i.symbol = 0)
    (hmk : mk i.symbol 0 = some i) (henc : ∀ c, encode c i = encSym c i.symbol 0 0) : IsSymbol extra mk i :=
  ⟨0, Nat.two_pow_pos _, hmk, fun c => by rw [henc, hx]⟩

theorem isSymbol_extra {extra : Nat → Nat} {mk : Nat → Nat → Option Instr} {k w : Nat} (f : BitVec w → Instr)
    (e : BitVec w) (henc : ∀ c, encode c (f e) = encSym c k e.toNat w) (hk : (f e).symbol = k) (hx : extra k = w)
    (hmk : ∀ v, mk k v = some (f (BitVec.ofNat w v))) : IsSymbol extra mk (f e) := by
  have he : e.toNat < 2 ^ extra k := by rw [hx]; exact e.isLt
  rw [IsSymbol, hk]
  refine ⟨e.toNat, he, ?_, fun c => by rw [henc, hx]⟩
  rw [hmk, BitVec.ofNat_toNat, BitVec.setWidth_eq]

theorem isSymbol_ll {i : Instr} (h : Format.llSymFmt = i.format) : IsSymbol lenExtra llInstr i := by
  cases i with
  | llLiteral b =>
    have hsub : b.toNat - 257 = 0 := by omega
    refine isSymbol_plain ?_ ?_ fun _ => rfl
    · simp only [Instr.symbol, lenExtra, hsub]; rfl
    · simp only [Instr.symbol, llInstr, if_pos b.isLt, BitVec.ofNat_toNat, BitVec.setWidth_eq]
  | llIllegal lo =>
    exact isSymbol_plain ((by decide : ∀ x : BitVec 1, lenExtra (286 + x.toNat) = 0) lo)
      ((by decide : ∀ x : BitVec 1, llInstr (286 + x.toNat) 0 = some (.llIllegal x)) lo) fun _ => rfl
  | llEob | llLen257 | llLen258 | llLen259 | llLen260 | llLen261 | llLen262 | llLen263 | llLen264 | llLen285 =>
    exact isSymbol_plain rfl rfl fun _ => rfl
  | llLen265 e | llLen266 e | llLen267 e | llLen268 e | llLen269 e | llLen270 e | llLen271 e | llLen272 e | llLen273 e
  | llLen274 e | llLen275 e | llLen276 e | llLen277 e | llLen278 e | llLen279 e | llLen280 e | llLen281 e | llLen282 e
  | llLen283 e | llLen284 e =>
    exact isSymbol_extra _ e (fun _ => rfl) rfl rfl fun _ => rfl
  | _ => cases h

theorem isSymbol_d {i : Instr} (h : Format.dSymFmt = i.format) : IsSymbol distExtra dInstr i := by
  cases i with
  | dIllegal lo =>
    exact isSymbol_plain ((by decide : ∀ x : BitVec 1, distExtra (30 + x.toNat) = 0) lo)
      ((by decide : ∀ x : BitVec 1, dInstr (30 + x.toNat) 0 = some (.dIllegal x)) lo) fun _ => rfl
  | dDist0 | dDist1 | dDist2 | dDist3 => exact isSymbol_plain rfl rfl fun _ => rfl
  | dDist4 e | dDist5 e | dDist6 e | dDist7 e | dDist8 e | dDist9 e | dDist10 e | dDist11 e | dDist12 e | dDist13 e
  | dDist14 e | dDist15 e | dDist16 e | dDist17 e | dDist18 e | dDist19 e | dDist20 e | dDist21 e | dDist22 e
  | dDist23 e | dDist24 e | dDist25 e | dDist26 e | dDist27 e | dDist28 e | dDist29 e =>
    exact isSymbol_extra _ e (fun _ => rfl) rfl rfl fun _ => rfl
  | _ => cases h

theorem isSymbol_cl {i : Instr} (h : Format.clSymFmt = i.format) : IsSymbol clExtra clInstr i := by
  cases i with
  | clLen0 | clLen1 | clLen2 | clLen3 | clLen4 | clLen5 | clLen6 | clLen7 | clLen8 | clLen9 | clLen10 | clLen11 | clLen12
  | clLen13 | clLen14 | clLen15 =>
    exact isSymbol_plain rfl rfl fun _ => rfl
  | clRepPrev e | clRepZeroShort e | clRepZeroLong e => exact isSymbol_extra _ e (fun _ => rfl) rfl rfl fun _ => rfl
  | _ => cases h

/-- Reading the code and extra bits of an element gives it back (R260, R263). -/
theorem decodeSym_encode {extra : Nat → Nat} {mk : Nat → Nat → Option Instr} {i : Instr} {c : Ctx}
    (hi : IsSymbol extra mk i) (ht : TreeOk c.tree) (hcode : treeHasCode c.tree i.symbol = true) (rest : List Bool) :
    decodeSym c.tree extra mk (encode c i ++ rest) = .ok i rest ∧
      ∃ r, decSym c.tree (encode c i ++ rest) = .sym i.symbol r := by
  obtain ⟨e, he, hmk, henc⟩ := hi
  have hsym := decSym_symBits ht (bne_iff_ne.mp hcode) (natBits (extra i.symbol) e ++ rest)
  rw [henc, encSym, List.append_assoc, decodeSym, hsym]
  refine ⟨?_, _, rfl⟩
  simp only [need_takeBits he, hmk]

/-- Settles O5: every element of the alphabets is a symbol with its extra value, and such a tree reads the
symbol back. -/
theorem symbolsRoundTrip : Obligations.SymbolsRoundTrip := by
  intro t i rest q ht
  refine ⟨fun _ hfits => ?_, fun _ hfits => ?_, fun _ hfits => ?_⟩
  · have hcode := (Bool.and_eq_true_iff.mp hfits).2
    exact (decodeSym_encode (c := .llSym t) (isSymbol_ll (format_of_fits hfits)) ht hcode rest).1
  · have hcode := (Bool.and_eq_true_iff.mp hfits).2
    exact (decodeSym_encode (c := .dSym t) (isSymbol_d (format_of_fits hfits)) ht hcode rest).1
  · obtain ⟨hcode, hprev⟩ := Bool.and_eq_true_iff.mp (Bool.and_eq_true_iff.mp hfits).2
    obtain ⟨hok, r, hr⟩ := decodeSym_encode (c := .clSym t q) (isSymbol_cl (format_of_fits hfits)) ht hcode rest
    obtain ⟨hq, ⟨r', hr'⟩, -⟩ | h := decodeCl_cases t q (encode (.clSym t q) i ++ rest)
    · have h16 : i.symbol = 16 := (SymResult.sym.inj (hr.symm.trans hr')).1
      simp [hq, h16] at hprev
    · exact h.trans hok

end Sys2Proof.Proofs


/-! PROOFS. The symbols of a length and of a distance (O9), and the fixed trees and block headers (O30, O1). -/

namespace Sys2Proof.Proofs

open Machine Safety Laws

/-! ### Length and distance symbols (R104, R105, R244) -/

/-- `lastBase` gives the last entry that is at most the value. -/
theorem lastBase_spec {base : List Nat} {v : Nat} (h0 : base.getD 0 0 ≤ v) (n : Nat) :
    lastBase base v n ≤ n ∧ base.getD (lastBase base v n) 0 ≤ v ∧
      ∀ x, lastBase base v n < x → x ≤ n → v < base.getD x 0 := by
  induction n with
  | zero => exact ⟨Nat.le_refl 0, h0, fun x hx hx0 => absurd hx (Nat.not_lt.mpr hx0)⟩
  | succ n ih =>
    rw [lastBase]
    split
    · next hle => exact ⟨Nat.le_refl _, hle, fun x hx hx' => absurd hx (Nat.not_lt.mpr hx')⟩
    · next hgt =>
      obtain ⟨hn, hle, hlast⟩ := ih
      refine ⟨hn.trans (Nat.le_succ n), hle, fun x hx hx' => ?_⟩
      obtain hx' | rfl := Nat.le_succ_iff.mp hx'
      · exact hlast x hx hx'
      · exact Nat.lt_of_not_le hgt

/-- The extra bits of a distance symbol reach the next one's base (R105). -/
theorem distBase_succ : ∀ k, k < 30 → (distBaseTable ++ [32769]).getD (k + 1) 0 = distBase k + 2 ^ distExtra k := by
  decide

/-- The extra bits of a length symbol below 284 reach the next one's base (R104). -/
theorem lenBase_succ : ∀ k, k < 27 → lenBase (257 + (k + 1)) = lenBase (257 + k) + 2 ^ lenExtra (257 + k) := by
  decide

theorem distSym_spec {d : Nat} (h1 : 1 ≤ d) (h2 : d ≤ 32768) :
    (distSym d).sym ≤ 29 ∧ distBase (distSym d).sym + (distSym d).extra = d ∧
    (distSym d).bits = distExtra (distSym d).sym ∧ (distSym d).extra < 2 ^ (distSym d).bits ∧
    ∀ x, (distSym d).sym < x → x ≤ 29 → d < distBase x := by
  obtain ⟨hk, hle, hlast⟩ := lastBase_spec (base := distBaseTable) h1 29
  simp only [distSym]
  generalize lastBase distBaseTable d 29 = k at hk hle hlast
  have hle : distBase k ≤ d := hle
  refine ⟨hk, Nat.add_sub_cancel' hle, trivial, ?_, hlast⟩
  have hnext : d < distBase k + 2 ^ distExtra k := by
    obtain hk | rfl := Nat.lt_or_eq_of_le hk
    · rw [← distBase_succ k (by omega), List.getD_append _ _ _ _ (Nat.succ_lt_succ hk)]
      exact hlast (k + 1) (Nat.lt_succ_self k) hk
    · exact Nat.lt_succ_of_le h2
  omega

theorem lenSym_spec {l : Nat} (h3 : 3 ≤ l) (hl : l < 258) :
    257 ≤ (lenSym l).sym ∧ (lenSym l).sym ≤ 284 ∧ lenBase (lenSym l).sym + (lenSym l).extra = l ∧
    (lenSym l).bits = lenExtra (lenSym l).sym ∧ (lenSym l).extra < 2 ^ (lenSym l).bits ∧
    ∀ x, (lenSym l).sym < x → x ≤ 284 → l < lenBase x := by
  obtain ⟨hk, hle, hlast⟩ := lastBase_spec (base := lenBaseTable) h3 27
  simp only [lenSym, if_neg (Nat.ne_of_lt hl)]
  generalize lastBase lenBaseTable l 27 = k at hk hle hlast
  have hbase (x : Nat) : lenBaseTable.getD x 0 = lenBase (257 + x) := by rw [lenBase, Nat.add_sub_cancel_left]
  rw [hbase] at hle
  refine ⟨Nat.le_add_right _ _, by omega, Nat.add_sub_cancel' hle, trivial, ?_, fun x hx hx' => ?_⟩
  · have hnext : l < lenBase (257 + k) + 2 ^ lenExtra (257 + k) := by
      obtain hk | rfl := Nat.lt_or_eq_of_le hk
      · rw [← lenBase_succ k hk, ← hbase]
        exact hlast (k + 1) (Nat.lt_succ_self k) hk
      · exact hl.trans (by decide)
    omega
  · exact hlast (x - 257) (by omega) (by omega)

theorem lenSym_max : lenSym 258 = { sym := 285, extra := 0, bits := 0 } := if_pos rfl

/-- Settles O9: the last entry at most the value is within one symbol's extra bits of it. -/
theorem lengthAndDistanceSymbols : Obligations.LengthAndDistanceSymbols := by
  refine ⟨fun l h3 hl => ?_, fun d h1 h2 => distSym_spec h1 h2, rfl, rfl, rfl⟩
  obtain hl | rfl := Nat.lt_or_eq_of_le hl
  · obtain ⟨hlo, hhi, hsum, hbits, hextra, hlast⟩ := lenSym_spec h3 hl
    exact ⟨hlo, hhi.trans (Nat.le_succ 284), hsum, hbits, hextra, fun h => absurd h (Nat.ne_of_lt hl),
      fun _ => ⟨hhi, hlast⟩⟩
  · rw [lenSym_max]
    exact ⟨by decide, by decide, rfl, rfl, by decide, fun _ => ⟨rfl, rfl⟩, fun h => absurd rfl h⟩

/-! ### The fixed trees (R106, R208, R211) -/

theorem assignCodes_fixedLenLL : assignCodes fixedLenLL = fixedCodesLL := by decide +kernel

theorem assignCodes_fixedLenD : assignCodes fixedLenD = fixedCodesD := by decide +kernel

theorem treeOf_fixedLenLL : treeOf fixedLenLL = fixedTreeLL := by rw [treeOf, assignCodes_fixedLenLL]; rfl

theorem treeOf_fixedLenD : treeOf fixedLenD = fixedTreeD := by rw [treeOf, assignCodes_fixedLenD]; rfl

/-- Numbers that fit the width of a table come back from it (R44, R45). -/
theorem map_toNat_ofNat {w : Nat} {xs : List Nat} (h : ∀ x ∈ xs, x < 2 ^ w) :
    (xs.map (BitVec.ofNat w)).map BitVec.toNat = xs := by
  rw [List.map_map, List.map_congr_left (g := id), List.map_id]
  intro x hx
  rw [Function.comp_apply, BitVec.toNat_ofNat, Nat.mod_eq_of_lt (h x hx), id]

theorem treeLL_withLL {t : Tables} {x : Tree} (hl : ∀ n ∈ x.lens, n < 2 ^ 4) (hc : ∀ n ∈ x.codes, n < 2 ^ 15) :
    (t.withLL x).treeLL = x := by
  rw [Tables.withLL, Tables.treeLL, map_toNat_ofNat hl, map_toNat_ofNat hc]

theorem treeD_withD {t : Tables} {x : Tree} (hl : ∀ n ∈ x.lens, n < 2 ^ 4) (hc : ∀ n ∈ x.codes, n < 2 ^ 15) :
    (t.withD x).treeD = x := by
  rw [Tables.withD, Tables.treeD, map_toNat_ofNat hl, map_toNat_ofNat hc]

theorem fixed_treeLL (t : Tables) : t.fixed.treeLL = fixedTreeLL :=
  treeLL_withLL (t := t) (by decide +kernel) (by decide +kernel)

theorem fixed_treeD (t : Tables) : t.fixed.treeD = fixedTreeD :=
  treeD_withD (by decide +kernel) (by decide +kernel)

/-- Settles O30: the fixed lengths give the listed codes, and the tables hold both. -/
theorem deflateHeadersSelectTheBody : Obligations.DeflateHeadersSelectTheBody := by
  refine ⟨⟨treeOf_fixedLenLL.symm, treeOf_fixedLenD.symm, ?_, assignCodes_fixedLenD⟩, fun s f =>
    ⟨rfl, rfl, _, rfl, rfl, fixed_treeLL s.tabs, fixed_treeD s.tabs, rfl, rfl⟩⟩
  simp only [Nat.add_comm 48, Nat.add_comm 400, Nat.add_comm 192]
  exact assignCodes_fixedLenLL

/-! ### Words of the encoding tables (R61, R92, R94, R95, R100, R108, R110) -/

/-- Settles O1: the decoder, run on the twelve words. -/
theorem sampleWordsDecode : Obligations.SampleWordsDecode := by
  unfold Obligations.SampleWordsDecode
  decide +kernel

end Sys2Proof.Proofs


/-! PROOFS. Illegal elements (O32) and the code-length symbols (O37). -/

namespace Sys2Proof.Proofs

open Machine Safety Laws

/-! ### Failures of the sequencer with every block collected (R433, R440, R441) -/

theorem raiseSeq_failedAs {s : State} (hb : busy s = true) (hc : s.nextCollect = s.nextCut) (d : Detail) :
    FailedAs d s (raiseSeq d s) := by
  have h := raiseSeq_raised hb d
  rwa [Raised, if_pos hc] at h

/-- `BFINAL` and `BTYPE` of the header that fails are no part of what a failure leaves (R256, R440). -/
theorem failedAs_of_blockHeader {d : Detail} {s t : State} {f : Bool} {bt : BitVec 2}
    (h : FailedAs d (blockHeader f bt s) t) : FailedAs d s t := h

/-- Settles O32: the token is refused by its meaning, and the others raise their failure. -/
theorem illegalElementsStopOrFail : Obligations.IllegalElementsStopOrFail := by
  refine ⟨fun _ _ => rfl, fun s f a m hb hc => ⟨⟨_, rfl, ?_⟩, ⟨_, rfl, ?_⟩, ⟨_, rfl, ?_⟩, ⟨_, rfl, ?_⟩⟩⟩
  · exact failedAs_of_blockHeader (raiseSeq_failedAs (s := blockHeader f 3 s) hb hc _)
  · exact raiseSeq_failedAs hb hc _
  · exact raiseSeq_failedAs hb hc _
  · exact raiseSeq_failedAs hb hc _

/-! ### Code-length symbols (R108, R260) -/

/-- Appending that leaves lengths missing (R260). -/
theorem appendLens_of_lt {v : BitVec 4} {n : Nat} {s : State} (h : s.rdQ.length + n < nllRead s + ndRead s) :
    appendLens v n s = { s with rdQ := s.rdQ ++ List.replicate n v } := by
  rw [appendLens]
  refine if_neg ?_
  rw [List.length_append, List.length_replicate]
  exact Nat.not_le.mpr h

theorem repeatLens_of_lt {v : BitVec 4} {n : Nat} {s : State} (h : s.rdQ.length + n < nllRead s + ndRead s) :
    repeatLens v n s = { s with rdQ := s.rdQ ++ List.replicate n v } := by
  rw [repeatLens, if_neg (Nat.not_lt.mpr (Nat.le_of_lt h)), appendLens_of_lt h]

/-- A repeat past the end (R260). -/
theorem repeatLens_of_gt {v : BitVec 4} {n : Nat} {s : State} (h : nllRead s + ndRead s < s.rdQ.length + n) :
    repeatLens v n s = raiseSeq .dflBadRepeat s := if_pos h

/-- The number of lengths of a block (R258). -/
theorem nllRead_add_ndRead (s : State) : nllRead s + ndRead s = s.unp.hlit.toNat + s.unp.hdist.toNat + 258 := by
  rw [nllRead, ndRead]; omega

/-- The symbols 0 to 15 append their value (R108, R260). -/
theorem clInstr_len {k : Nat} (h : k ≤ 15) : ∃ i, clInstr k 0 = some i ∧ i.symbol = k ∧
    ∀ s, exec i s = .next (appendLens (BitVec.ofNat 4 k) 1 s) := by
  interval_cases k <;> exact ⟨_, rfl, rfl, fun _ => rfl⟩

theorem execClRepPrev_of_last {s : State} {v : BitVec 4} (e : BitVec 2) (h : s.rdQ.getLast? = some v) :
    execClRepPrev e s = .next (repeatLens v (3 + e.toNat) s) := by simp only [execClRepPrev, h]

theorem execClRepPrev_of_empty {s : State} (e : BitVec 2) (h : s.rdQ = []) :
    execClRepPrev e s = .next (raiseSeq .dflBadRepeat s) := by simp only [execClRepPrev, h, List.getLast?_nil]

/-- A repeat of the previous length that has none, or passes the end, raises (R260). -/
theorem execClRepPrev_bad {s : State} {e : BitVec 2}
    (h : s.rdQ = [] ∨ nllRead s + ndRead s < s.rdQ.length + (3 + e.toNat)) :
    execClRepPrev e s = .next (raiseSeq .dflBadRepeat s) := by
  cases hl : s.rdQ.getLast? with
  | none => exact execClRepPrev_of_empty e (List.getLast?_eq_none_iff.mp hl)
  | some v =>
    have hne : s.rdQ ≠ [] := by rintro h0; rw [h0] at hl; cases hl
    rw [execClRepPrev_of_last e hl, repeatLens_of_gt (h.resolve_left hne)]

/-- The two extra bits of symbol 16 (R72, R108). -/
theorem takeBits_two (r : List Bool) :
    takeBits 2 r = if r.length < 2 then none else some (natOfBits (r.take 2), r.drop 2) := by
  match r with
  | [] => rfl
  | [_] => rfl
  | a :: b :: r => rw [if_neg (by simp)]; rfl

/-- Symbol 16 is read after the test on `Q` (R260). -/
theorem decode_clSym_repPrev {tr : Tree} {bs r : List Bool} (h : decSym tr bs = .sym 16 r) :
    decode (.clSym tr true) bs = .bad .dflBadRepeat ∧
    decode (.clSym tr false) bs =
      (if r.length < 2 then .short else .ok (.clRepPrev (BitVec.ofNat 2 (natOfBits (r.take 2)))) (r.drop 2)) := by
  refine ⟨by simp only [decode, decodeCl, h, if_true], ?_⟩
  have hx : clExtra 16 = 2 := rfl
  simp only [decode, decodeCl, decodeSym, h, hx, takeBits_two, Bool.false_eq_true, if_false]
  split <;> rfl

theorem wantCtx_clSym (s : State) : wantCtx { s with want := .clSym } = some (.clSym s.tabs.treeCL (s.rdQ == [])) := by
  simp only [wantCtx]
  cases s.rdQ <;> rfl

/-- Settles O37: each meaning is one `appendLens` or `repeatLens`, whose outcome the number of lengths decides. -/
theorem codeLengthSymbolsExtendQ : Obligations.CodeLengthSymbolsExtendQ := by
  refine ⟨fun _ _ _ h => decode_clSym_repPrev h, fun s => ⟨wantCtx_clSym s, ?_⟩⟩
  rw [← nllRead_add_ndRead]
  refine ⟨fun k hk => ?_, fun e => ⟨fun v hv hlt => ?_, fun hb hc hbad => ?_⟩,
    fun e => ⟨fun hlt => ?_, fun hb hc hgt => ?_⟩, fun e => ⟨fun hlt => ?_, fun hb hc hgt => ?_⟩⟩
  · obtain ⟨i, hi, hsym, hexec⟩ := clInstr_len hk
    exact ⟨i, hi, hsym, fun hlt => by rw [hexec, appendLens_of_lt hlt]; rfl⟩
  · exact (execClRepPrev_of_last e hv).trans (by rw [repeatLens_of_lt hlt])
  · exact ⟨_, execClRepPrev_bad hbad, raiseSeq_failedAs hb hc _⟩
  · exact congrArg Host.Outcome.next (repeatLens_of_lt hlt)
  · exact ⟨_, congrArg Host.Outcome.next (repeatLens_of_gt hgt), raiseSeq_failedAs hb hc _⟩
  · exact congrArg Host.Outcome.next (repeatLens_of_lt hlt)
  · exact ⟨_, congrArg Host.Outcome.next (repeatLens_of_gt hgt), raiseSeq_failedAs hb hc _⟩

end Sys2Proof.Proofs


/-! PROOFS. What the session's decoder produces (R180, R181), and the distance symbols (O36). -/

namespace Sys2Proof.Proofs

open Machine Safety Laws

/-! ### Producing bytes (R164, R180, R396) -/

theorem openBeats_append (as bs : List Byte) : openBeats (as ++ bs) = openBeats as ++ openBeats bs := List.map_append

theorem crcUpd_append (c : Word) (as bs : List Byte) : crcUpd c (as ++ bs) = crcUpd (crcUpd c as) bs := by
  induction as generalizing c with
  | nil => rfl
  | cons a as ih => exact ih _

theorem adlerUpd_append (v : Word) (as bs : List Byte) : adlerUpd v (as ++ bs) = adlerUpd (adlerUpd v as) bs := by
  induction as generalizing v with
  | nil => rfl
  | cons a as ih => exact ih _

theorem ckTake_crc (bs : List Byte) (s : State) :
    (ckTake bs s).crc = if effectiveCk s = .crc32 then crcUpd s.crc bs else s.crc := by
  unfold ckTake; split <;> simp_all

theorem ckTake_adler (bs : List Byte) (s : State) :
    (ckTake bs s).adler = if effectiveCk s = .adler32 then adlerUpd s.adler bs else s.adler := by
  unfold ckTake; split <;> simp_all

theorem ckTake_eq (bs : List Byte) (s : State) :
    ckTake bs s = { s with crc := (ckTake bs s).crc, adler := (ckTake bs s).adler } := by
  unfold ckTake; split <;> rfl

/-- What emitting bytes does (R396): they are counted and follow the earlier output in order, all held outside stream
mode, all but the last released in it. -/
theorem emit_emits (bs : List Byte) (s : State) :
    emit bs s = { s with outcnt := s.outcnt + BitVec.ofNat 64 bs.length, outp := (emit bs s).outp,
                         stage := (emit bs s).stage } ∧
    (emit bs s).outp ++ openBeats (emit bs s).stage = s.outp ++ openBeats (s.stage ++ bs) ∧
    (streamMode s = false → (emit bs s).outp = s.outp) ∧ (streamMode s = true → (emit bs s).stage.length ≤ 1) := by
  unfold emit
  cases h : streamMode s
  · exact ⟨rfl, rfl, fun _ => rfl, nofun⟩
  · refine ⟨rfl, ?_, nofun, fun _ => ?_⟩
    · rw [if_pos rfl, List.append_assoc, ← openBeats_append, List.take_append_drop]
    · rw [if_pos rfl, List.length_drop]; omega

theorem produces_nil (s : State) : Produces [] s s := by
  refine ⟨?_, fun a => ?_, ?_, ?_, ?_, fun _ => rfl, fun _ h => h.resolve_left (fun h => h rfl)⟩
  · simp
  · rw [List.length_nil, Nat.add_zero, if_neg (by omega)]
  · simp [crcUpd]
  · simp [adlerUpd]
  · rw [List.append_nil]

theorem produces_litOut (b : Byte) (s : State) : Produces [b] s (litOut b s) := by
  obtain ⟨he, houtp, hbuf, hstream⟩ := emit_emits [b] (ckTake [b]
    { s with unp := { s.unp with outwin := s.unp.outwin.write s.unp.produced.toNat b, produced := s.unp.produced + 1 } })
  rw [ckTake_outp, ckTake_stage] at houtp
  rw [ckTake_outp] at hbuf
  have hmode (m : Unpacker) : streamMode (ckTake [b] { s with unp := m }) = streamMode s := by simp [streamMode]
  rw [hmode] at hbuf hstream
  refine ⟨?_, fun a => ?_, ?_, ?_, houtp, hbuf, fun h _ => hstream h⟩
  · refine he.trans ?_
    simp [litOut]
  · rw [litOut_unp, read_write]
    by_cases ha : s.unp.produced.toNat = a
    · rw [if_pos ha, if_pos (by rw [List.length_singleton]; omega), ha, Nat.sub_self]; rfl
    · rw [if_neg ha, if_neg (by rw [List.length_singleton]; omega)]
  · rw [litOut, emit_crc, ckTake_crc]; rfl
  · rw [litOut, emit_adler, ckTake_adler]; rfl

theorem litOut_produced_toNat (b : Byte) {s : State} (hw : s.unp.produced.toNat + 1 < 2 ^ 64) :
    (litOut b s).unp.produced.toNat = s.unp.produced.toNat + 1 := by
  rw [litOut_unp, BitVec.toNat_add]
  exact Nat.mod_eq_of_lt hw

/-- Producing one string and then another is producing both, while `PRODUCED` does not wrap. -/
theorem produces_trans {as bs : List Byte} {s t u : State} (h : Produces as s t) (k : Produces bs t u)
    (hw : s.unp.produced.toNat + as.length + bs.length < 2 ^ 64) : Produces (as ++ bs) s u := by
  obtain ⟨ht, hread, hcrc, hadler, houtp, hbuf, hstream⟩ := h
  obtain ⟨ku, kread, kcrc, kadler, koutp, kbuf, kstream⟩ := k
  have hscfg : t.scfg = s.scfg := by rw [ht]
  have hprod : t.unp.produced = s.unp.produced + BitVec.ofNat 64 as.length := by rw [ht]
  have hnum : t.unp.produced.toNat = s.unp.produced.toNat + as.length := by
    rw [hprod, BitVec.toNat_add, BitVec.toNat_ofNat]; omega
  have hck : effectiveCk t = effectiveCk s := by simp only [effectiveCk, codec, hscfg]
  have hmode : streamMode t = streamMode s := by simp only [streamMode, hscfg]
  refine ⟨?_, fun a => ?_, ?_, ?_, ?_, fun hs => ?_, fun hs hne => ?_⟩
  · rw [ku, ht]
    simp [BitVec.add_assoc, BitVec.ofNat_add]
  · rw [kread, hread, hnum, List.length_append]
    by_cases hin : s.unp.produced.toNat + as.length ≤ a ∧ a < s.unp.produced.toNat + as.length + bs.length
    · rw [if_pos hin, if_pos (by omega), List.getElem?_append_right (by omega), Nat.sub_sub]
    · rw [if_neg hin]
      by_cases has : s.unp.produced.toNat ≤ a ∧ a < s.unp.produced.toNat + as.length
      · rw [if_pos has, if_pos (by omega), List.getElem?_append_left (by omega)]
      · rw [if_neg has, if_neg (by omega)]
  · rw [kcrc, hcrc, hck]; split <;> simp [crcUpd_append]
  · rw [kadler, hadler, hck]; split <;> simp [adlerUpd_append]
  · rw [koutp, openBeats_append, ← List.append_assoc, houtp, ← List.append_assoc s.stage,
      openBeats_append (s.stage ++ as), List.append_assoc]
  · rw [kbuf (hmode.trans hs), hbuf hs]
  · refine kstream (hmode.trans hs) ?_
    by_cases hb : bs = []
    · exact .inr (hstream hs (hne.imp_left fun h => by simpa [hb] using h))
    · exact .inl hb

theorem produces_litsOut (bs : List Byte) {s : State} (hw : s.unp.produced.toNat + bs.length < 2 ^ 64) :
    Produces bs s (litsOut bs s) := by
  induction bs generalizing s with
  | nil => exact produces_nil s
  | cons b bs ih =>
    rw [List.length_cons] at hw
    have hnum : (litOut b s).unp.produced.toNat = s.unp.produced.toNat + 1 := litOut_produced_toNat b (by omega)
    exact produces_trans (produces_litOut b s) (ih (by omega)) (by rw [List.length_singleton]; omega)

/-! ### Copying (R181) -/

theorem windowFilled_litOut {s : State} (b : Byte) (h : WindowFilled s.unp) : WindowFilled (litOut b s).unp := by
  rw [litOut_unp]
  exact (windowKept_litOut s.unp b).filled h

theorem windowByte_of_filled {u : Unpacker} {d : Nat} (h : WindowFilled u) (h1 : 1 ≤ d) (hd : d ≤ u.produced.toNat) :
    ∃ b, windowByte u d = some b ∧ u.outwin.read (u.produced.toNat - d) = some b := by
  obtain ⟨b, hb⟩ := Option.isSome_iff_exists.mp (h (u.produced.toNat - d) (by omega))
  exact ⟨b, by rw [windowByte, if_neg (by omega), hb], hb⟩

/-- A copy of a distance within what was produced answers, and each byte it produces equals the byte that far back, its
own bytes included (R181). -/
theorem copyOut_spec {d n : Nat} {s : State} (hf : WindowFilled s.unp) (h1 : 1 ≤ d) (hd : d ≤ s.unp.produced.toNat)
    (hw : s.unp.produced.toNat + n < 2 ^ 64) :
    ∃ bs, copyOut d n s = some (litsOut bs s) ∧ bs.length = n ∧
      ∀ j, j < n → (litsOut bs s).unp.outwin.read (s.unp.produced.toNat + j) =
        (litsOut bs s).unp.outwin.read (s.unp.produced.toNat + j - d) := by
  induction n generalizing s with
  | zero => exact ⟨[], rfl, rfl, nofun⟩
  | succ n ih =>
    obtain ⟨b, hb, hread⟩ := windowByte_of_filled hf h1 hd
    have hnum : (litOut b s).unp.produced.toNat = s.unp.produced.toNat + 1 := litOut_produced_toNat b (by omega)
    obtain ⟨bs, hcopy, hlen, hback⟩ := ih (windowFilled_litOut b hf) (by omega) (by omega)
    refine ⟨b :: bs, by simp only [copyOut, hb, hcopy, litsOut], by rw [List.length_cons, hlen], fun j hj => ?_⟩
    obtain _ | j := j
    · obtain ⟨-, hall, -⟩ := produces_litsOut (b :: bs) (s := s) (by rw [List.length_cons, hlen]; exact hw)
      rw [hall, hall, if_pos (by simp), if_neg (by omega), Nat.add_zero, Nat.sub_self, hread]; rfl
    · have hj' := hback j (Nat.lt_of_succ_lt_succ hj)
      rw [hnum, Nat.add_assoc, Nat.add_comm 1 j] at hj'
      exact hj'

/-! ### Distance symbols (R105, R263, R265, R266) -/

theorem distanceSym_tooFar {k e : Nat} {s : State} (h : s.unp.produced.toNat < distBase k + e) :
    distanceSym k e s = .next (raiseSeq .dflDistTooFar s) := if_pos h

theorem distanceSym_beyond {k e : Nat} {s : State} (h : distBase k + e ≤ s.unp.produced.toNat)
    (hwin : windowBytes s < distBase k + e) : distanceSym k e s = .next (raiseSeq .distBeyondWindow s) :=
  (if_neg (Nat.not_lt.mpr h)).trans (if_pos hwin)

theorem distanceSym_copy {k e : Nat} {s : State} (h : distBase k + e ≤ s.unp.produced.toNat)
    (hwin : distBase k + e ≤ windowBytes s) :
    distanceSym k e s = ofRead (copyOut (distBase k + e) s.rdLen s) fun t => .next { t with want := .llSym } :=
  (if_neg (Nat.not_lt.mpr h)).trans (if_neg (Nat.not_lt.mpr hwin))

theorem dist_pos {k : Nat} (hk : k ≤ 29) : 1 ≤ distBase k := (by decide : ∀ k, k ≤ 29 → 1 ≤ distBase k) k hk

/-- A meaning with an extra field is the distance symbol of its value (R105). -/
theorem exec_dist_extra {k e w : Nat} (f : BitVec w → Instr) (h : ∀ x s, exec (f x) s = distanceSym k x.toNat s)
    (he : e < 2 ^ w) (s : State) : exec (f (BitVec.ofNat w e)) s = distanceSym k e s := by
  rw [h, BitVec.toNat_ofNat, Nat.mod_eq_of_lt he]

theorem exec_dInstr {k e : Nat} (hk : k ≤ 29) (he : e < 2 ^ distExtra k) :
    ∃ i, dInstr k e = some i ∧ i.symbol = k ∧ ∀ s, exec i s = distanceSym k e s := by
  by_cases h4 : k < 4
  · obtain rfl : e = 0 := by
      rw [(by decide : ∀ k, k < 4 → distExtra k = 0) k h4] at he
      omega
    interval_cases k <;> exact ⟨_, rfl, rfl, fun _ => rfl⟩
  · interval_cases k <;> exact ⟨_, rfl, rfl, exec_dist_extra _ (fun _ _ => rfl) he⟩

/-- Settles O36: the symbol's element is `distanceSym` of its value, whose tests decide between the two failures and a
copy. -/
theorem distanceSymbolsCopy : Obligations.DistanceSymbolsCopy := by
  intro k e s hk he
  obtain ⟨i, hi, hsym, hexec⟩ := exec_dInstr hk he
  refine ⟨i, hi, hsym, fun hd hwin hf hw => ?_, fun hfar hb hc => ?_, fun hd hwin hb hc => ?_⟩
  · obtain ⟨bs, hcopy, hlen, hback⟩ := copyOut_spec hf ((dist_pos hk).trans (Nat.le_add_right _ e)) hd hw
    refine ⟨bs, litsOut bs s, ?_, hlen, produces_litsOut bs (hlen.symm ▸ hw), hback⟩
    rw [hexec, distanceSym_copy hd hwin, hcopy, ofRead]
  · exact ⟨_, (hexec s).trans (distanceSym_tooFar hfar), raiseSeq_failedAs hb hc _⟩
  · exact ⟨_, (hexec s).trans (distanceSym_beyond hd hwin), raiseSeq_failedAs hb hc _⟩

end Sys2Proof.Proofs


/-! PROOFS. The checksum combiners (40_checksum.md). CRC32 is linear over bit vectors with exclusive or; Adler-32 is a pair of sums
modulo 65521, and combining commutes with taking one byte more. -/

namespace Sys2Proof.Proofs

open Machine Safety Laws

/-! ### CRC32 is linear (R152, R153, R155) -/

theorem crcShift_xor (c d : Word) : crcShift (c ^^^ d) = crcShift c ^^^ crcShift d := by
  unfold crcShift
  rw [BitVec.getLsbD_xor, BitVec.ushiftRight_xor_distrib]
  cases c.getLsbD 0 <;> cases d.getLsbD 0
  case false.false => rfl
  case false.true => exact BitVec.xor_assoc ..
  case true.false =>
    show c >>> 1 ^^^ d >>> 1 ^^^ 0xEDB88320#32 = (c >>> 1 ^^^ 0xEDB88320#32) ^^^ d >>> 1
    ac_rfl
  case true.true =>
    have hcancel : 0xEDB88320#32 ^^^ 0xEDB88320#32 = 0#32 := BitVec.xor_self
    calc c >>> 1 ^^^ d >>> 1 = c >>> 1 ^^^ d >>> 1 ^^^ (0xEDB88320#32 ^^^ 0xEDB88320#32) := by
          rw [hcancel, BitVec.xor_zero]
      _ = (c >>> 1 ^^^ 0xEDB88320#32) ^^^ (d >>> 1 ^^^ 0xEDB88320#32) := by ac_rfl

theorem crcShifts_xor (k : Nat) (c d : Word) : crcShifts k (c ^^^ d) = crcShifts k c ^^^ crcShifts k d := by
  induction k generalizing c d with
  | zero => rfl
  | succ k ih => rw [crcShifts, crcShift_xor, ih, crcShifts, crcShifts]

/-- A change of the register passes through a byte step as through a step with the byte zero. -/
theorem crcByte_xor (c d : Word) (b : Byte) : crcByte (c ^^^ d) b = crcByte c b ^^^ crcByte d 0 := by
  have hzero : d ^^^ (0 : Byte).zeroExtend 32 = d := BitVec.xor_zero
  have hreg : c ^^^ d ^^^ b.zeroExtend 32 = c ^^^ b.zeroExtend 32 ^^^ d := by ac_rfl
  rw [crcByte, crcByte, crcByte, hzero, hreg, crcShifts_xor]

theorem crcUpd_xor (c d : Word) (s : List Byte) : crcUpd (c ^^^ d) s = crcUpd c s ^^^ crcZeros s.length d := by
  induction s generalizing c d with
  | nil => rfl
  | cons b s ih => rw [crcUpd, crcByte_xor, ih, crcUpd, List.length_cons, crcZeros]

/-- Going on from any register is going on from the initial one, with the finalized register passed through zero bytes. -/
theorem crcUpd_eq_crcZeros_crcFin (c : Word) (s : List Byte) :
    crcUpd c s = crcZeros s.length (crcFin c) ^^^ crcUpd crcInit s := by
  have hc : c = crcInit ^^^ crcFin c := by
    rw [crcFin, BitVec.xor_comm c, ← BitVec.xor_assoc, show crcInit ^^^ 0xFFFFFFFF#32 = 0#32 by decide, BitVec.zero_xor]
  calc crcUpd c s = crcUpd (crcInit ^^^ crcFin c) s := by rw [← hc]
    _ = crcZeros s.length (crcFin c) ^^^ crcUpd crcInit s := by rw [crcUpd_xor, BitVec.xor_comm]

theorem crcComb_crc32 (a b : List Byte) : crcComb (crc32 a) (crc32 b) b.length = crc32 (a ++ b) := by
  rw [crc32, crc32, crc32, crcUpd_append, crcUpd_eq_crcZeros_crcFin (crcUpd crcInit a) b]
  exact (BitVec.xor_assoc ..).symm

/-! ### Adler-32 is a pair of sums modulo 65521 (R158, R159, R161) -/

theorem adlerA_adlerPack {a : Nat} (b : Nat) (ha : a < 65521) : adlerA (adlerPack a b) = a := by
  simp only [adlerA, adlerPack, BitVec.toNat_ofNat]
  omega

theorem adlerB_adlerPack {a b : Nat} (ha : a < 65521) (hb : b < 65521) : adlerB (adlerPack a b) = b := by
  simp only [adlerB, adlerPack, BitVec.toNat_ofNat]
  omega

theorem adlerPack_adlerA_adlerB (v : Word) : adlerPack (adlerA v) (adlerB v) = v := by
  apply BitVec.eq_of_toNat_eq
  simp only [adlerA, adlerB, adlerPack, BitVec.toNat_ofNat]
  omega

/-- Combining with the value of the empty byte string changes nothing. -/
theorem adlerComb_adlerInit {v : Word} (h : adlerA v < 65521 ∧ adlerB v < 65521) : adlerComb v adlerInit 0 = v := by
  obtain ⟨ha, hb⟩ := h
  have hA : (adlerA v + adlerA adlerInit + 65521 - 1) % 65521 = adlerA v := by
    rw [show adlerA adlerInit = 1 from rfl]
    omega
  have hB : (adlerB v + adlerB adlerInit + 0 % 65521 * ((adlerA v + 65521 - 1) % 65521)) % 65521 = adlerB v := by
    rw [show adlerB adlerInit = 0 from rfl]
    omega
  rw [adlerComb, hA, hB, adlerPack_adlerA_adlerB]

/-- One byte more in the second range is one byte step of the combined value. -/
theorem adlerComb_adlerByte (v1 v2 : Word) (n : Nat) (x : Byte) :
    adlerComb v1 (adlerByte v2 x) (n + 1) = adlerByte (adlerComb v1 v2 n) x := by
  have hlt (k : Nat) : k % 65521 < 65521 := Nat.mod_lt k (by decide)
  have hcount (t : Nat) : ((n + 1) % 65521 * t) % 65521 = (n % 65521 * t + t) % 65521 := by
    rw [← Nat.succ_mul, Nat.mul_mod, Nat.mod_mod, Nat.mul_mod (n % 65521 + 1), Nat.mod_add_mod]
  have hA : (adlerA v1 + (adlerA v2 + x.toNat) % 65521 + 65521 - 1) % 65521 =
      ((adlerA v1 + adlerA v2 + 65521 - 1) % 65521 + x.toNat) % 65521 := by omega
  simp only [adlerComb, adlerByte, adlerA_adlerPack _ (hlt _), adlerB_adlerPack (hlt _) (hlt _), hA]
  refine congrArg (adlerPack _) ?_
  have := hcount ((adlerA v1 + 65521 - 1) % 65521)
  omega

theorem adlerComb_adlerUpd (v1 v2 : Word) (n : Nat) (s : List Byte) :
    adlerComb v1 (adlerUpd v2 s) (n + s.length) = adlerUpd (adlerComb v1 v2 n) s := by
  induction s generalizing v2 n with
  | nil => rfl
  | cons x s ih =>
    rw [adlerUpd, adlerUpd, ← adlerComb_adlerByte, ← ih, List.length_cons, Nat.add_assoc, Nat.add_comm 1]

theorem adlerComb_adler32 (a b : List Byte) :
    adlerComb (adler32 a) (adler32 b) b.length = adler32 (a ++ b) := by
  have hred : adlerA (adler32 a) < 65521 ∧ adlerB (adler32 a) < 65521 := adlerUpd_halves (by decide) a
  calc adlerComb (adler32 a) (adler32 b) b.length
      = adlerComb (adler32 a) (adlerUpd adlerInit b) (0 + b.length) := by rw [Nat.zero_add]; rfl
    _ = adlerUpd (adler32 a) b := by rw [adlerComb_adlerUpd, adlerComb_adlerInit hred]
    _ = adler32 (a ++ b) := (adlerUpd_append adlerInit a b).symm

/-- Settles O10: CRC32 by linearity, Adler-32 by induction on the second range; the updates are folds over the bytes. -/
theorem checksumsSplitAndCombine : Obligations.ChecksumsSplitAndCombine :=
  ⟨fun a b => ⟨crcComb_crc32 a b, adlerComb_adler32 a b⟩, crcUpd_append, adlerUpd_append,
    fun _ _ => ⟨rfl, rfl, rfl, rfl⟩⟩

end Sys2Proof.Proofs


/-! PROOFS. The search of the Match Engine gives the best match (O11), and the tokens of a block expand to it (O12). -/

namespace Sys2Proof.Proofs

open Machine Safety Laws

/-! ### How far two places agree (R172, R173) -/

/-- The common length is the greatest one, up to the cap, in which the two strings agree (R173). -/
theorem le_commonLen_iff {l cap : Nat} {as bs : List Byte} :
    l ≤ commonLen cap as bs ↔
      l ≤ cap ∧ l ≤ as.length ∧ l ≤ bs.length ∧ ∀ k, k < l → as.getD k 0 = bs.getD k 0 := by
  fun_induction commonLen cap as bs generalizing l with
  | case1 cap as a bs ih =>
    cases l with
    | zero => simp
    | succ l =>
      simp only [Nat.succ_eq_add_one, Nat.add_le_add_iff_right, ih, List.length_cons, Nat.forall_lt_succ_left,
        List.getD_cons_zero, List.getD_cons_succ, true_and]
  | case2 cap a as b bs hab =>
    cases l with
    | zero => simp
    | succ l =>
      simp only [Nat.forall_lt_succ_left, List.getD_cons_zero, hab, false_and, and_false, Nat.add_one_le_iff,
        Nat.not_lt_zero]
  | case3 cap as bs hne =>
    cases l with
    | zero => simp
    | succ l =>
      refine iff_of_false (Nat.not_succ_le_zero l) fun ⟨hcap, has, hbs, _⟩ => ?_
      obtain ⟨cap, rfl⟩ := Nat.exists_eq_add_of_lt hcap
      obtain ⟨a, as, rfl⟩ := List.exists_cons_of_length_pos (Nat.zero_lt_of_lt has)
      obtain ⟨b, bs, rfl⟩ := List.exists_cons_of_length_pos (Nat.zero_lt_of_lt hbs)
      exact hne _ _ _ _ _ rfl rfl rfl

theorem matchCap_le (m : MatchLimits) (n p : Nat) : matchCap m n p ≤ n - p := by
  unfold matchCap
  split
  · split <;> omega
  · exact Nat.min_le_right _ _

/-- The longest match length at `p` for one offset (R173). -/
def matchLen (m : MatchLimits) (buf : List Byte) (p off : Nat) : Nat :=
  commonLen (matchCap m buf.length p) (buf.drop p) (buf.drop (p - off))

/-- A pair is a valid match where its length is between the minimum match and the longest of its offset (R172). -/
theorem validMatch_iff {m : MatchLimits} {buf : List Byte} {p off len : Nat} :
    ValidMatch m buf p off len ↔
      1 ≤ off ∧ off ≤ min p m.maxOffset ∧ m.minMatch ≤ len ∧ len ≤ matchLen m buf p off := by
  have hcap := matchCap_le m buf.length p
  have hget (q k : Nat) : (buf.drop q).getD k 0 = buf.getD (q + k) 0 := by
    simp only [List.getD_eq_getElem?_getD, List.getElem?_drop]
  simp only [ValidMatch, matchLen, le_commonLen_iff, List.length_drop, hget]
  refine and_congr_right fun _ => and_congr_right fun _ => and_congr_right fun _ => and_congr_right fun hlen => ?_
  exact ⟨fun h => ⟨by omega, by omega, h⟩, fun ⟨_, _, h⟩ => h⟩

/-! ### The search (R173) -/

/-- `b` holds the greatest length among the offsets 1 to `n`, and the first offset that has it; `(0, 0)` where every
length is 0. -/
structure BestUpTo (len : Nat → Nat) (n : Nat) (b : Found) : Prop where
  inside : b.off ≤ n
  longest : ∀ o, 1 ≤ o → o ≤ n → len o ≤ b.len
  first : ∀ o, 1 ≤ o → o ≤ n → len o = b.len → b.off ≤ o
  reached : b.len ≠ 0 → 1 ≤ b.off ∧ len b.off = b.len

theorem bestUpTo_zero (len : Nat → Nat) : BestUpTo len 0 ⟨0, 0⟩ :=
  ⟨Nat.le_refl 0, by omega, by omega, fun h => absurd rfl h⟩

/-- One more offset is taken only where its length is strictly greater, so an earlier offset stays (R173). -/
theorem BestUpTo.next {len : Nat → Nat} {n : Nat} {b : Found} (h : BestUpTo len n b) :
    BestUpTo len (n + 1) (if b.len < len (n + 1) then ⟨n + 1, len (n + 1)⟩ else b) := by
  obtain ⟨inside, longest, first, reached⟩ := h
  split
  · next hlt =>
    have hlast (o : Nat) (h1 : 1 ≤ o) (hn : o ≤ n + 1) : len o < len (n + 1) ∨ o = n + 1 :=
      (Nat.le_succ_iff.mp hn).imp_left fun hn => (longest o h1 hn).trans_lt hlt
    refine ⟨Nat.le_refl _, fun o h1 hn => ?_, fun o h1 hn heq => ?_, fun _ => ⟨Nat.succ_pos n, rfl⟩⟩
    · obtain h | rfl := hlast o h1 hn
      · exact h.le
      · exact Nat.le_refl _
    · obtain h | rfl := hlast o h1 hn
      · exact absurd heq h.ne
      · exact Nat.le_refl _
  · next hge =>
    refine ⟨inside.trans (Nat.le_succ n), fun o h1 hn => ?_, fun o h1 hn heq => ?_, reached⟩
    · obtain hn | rfl := Nat.le_succ_iff.mp hn
      · exact longest o h1 hn
      · exact Nat.le_of_not_lt hge
    · obtain hn | rfl := Nat.le_succ_iff.mp hn
      · exact first o h1 hn heq
      · exact inside.trans (Nat.le_succ n)

theorem findLoop_best {m : MatchLimits} {buf : List Byte} {p k n : Nat} {b : Found}
    (h : BestUpTo (matchLen m buf p) n b) :
    BestUpTo (matchLen m buf p) (n + k) (findLoop buf p (matchCap m buf.length p) k (n + 1) b) := by
  induction k generalizing n b with
  | zero => exact h
  | succ k ih =>
    rw [← Nat.succ_add_eq_add_succ]
    exact ih h.next

/-- `LZ.FIND` gives `(0, 0)` where no pair is a valid match, else the best of all offsets (R173). -/
theorem lzFind_cases (m : MatchLimits) (buf : List Byte) (p : Nat) :
    (lzFind m buf p = ⟨0, 0⟩ ∧ ∀ off len, ¬ ValidMatch m buf p off len) ∨
    (m.minMatch ≤ (lzFind m buf p).len ∧
      BestUpTo (matchLen m buf p) (min p m.maxOffset) (lzFind m buf p)) := by
  by_cases hcap : m.minMatch ≤ matchCap m buf.length p
  · have hbest := findLoop_best (k := min p m.maxOffset) (bestUpTo_zero (matchLen m buf p))
    rw [Nat.zero_add] at hbest
    simp only [lzFind, if_pos hcap]
    split
    · next hmin => exact .inr ⟨hmin, hbest⟩
    · next hmin =>
      refine .inl ⟨rfl, fun off len hv => hmin ?_⟩
      obtain ⟨h1, hoff, hlen, hle⟩ := validMatch_iff.mp hv
      exact hlen.trans (hle.trans (hbest.longest off h1 hoff))
  · refine .inl ⟨?_, fun off len hv => hcap ?_⟩
    · simp only [lzFind, if_neg hcap, ite_self]
    · obtain ⟨_, _, hlen, hle, _⟩ := hv
      exact hlen.trans hle

theorem lzFind_valid {m : MatchLimits} {buf : List Byte} {p : Nat} (h : (lzFind m buf p).len ≠ 0) :
    ValidMatch m buf p (lzFind m buf p).off (lzFind m buf p).len := by
  obtain ⟨hnone, _⟩ | ⟨hmin, hbest⟩ := lzFind_cases m buf p
  · exact absurd (congrArg Found.len hnone) h
  · obtain ⟨h1, hlen⟩ := hbest.reached h
    exact validMatch_iff.mpr ⟨h1, hbest.inside, hmin, hlen.ge⟩

/-- Settles O11: a valid match is no longer than the longest of its offset, and the search keeps the best of these. -/
theorem findIsTheBestMatch : Obligations.FindIsTheBestMatch := by
  intro m buf p hm _
  refine ⟨fun h0 => ?_, fun hne => ⟨lzFind_valid hne, fun off len hv => ?_⟩⟩
  · obtain ⟨hnone, hno⟩ | ⟨hmin, _⟩ := lzFind_cases m buf p
    · exact ⟨congrArg Found.off hnone, hno⟩
    · omega
  · obtain ⟨_, hno⟩ | ⟨_, hbest⟩ := lzFind_cases m buf p
    · exact absurd hv (hno off len)
    · obtain ⟨h1, hoff, _, hle⟩ := validMatch_iff.mp hv
      have hlongest := hbest.longest off h1 hoff
      exact ⟨hle.trans hlongest, fun heq => hbest.first off h1 hoff (hlongest.antisymm (heq ▸ hle))⟩

/-! ### The tokens of a block (R176, R177, R178) -/

/-- What one tokenizer step does in either mode (R176, R177): `probed` says whether the search is made again at the
next position. -/
theorem lzStep_eq (isLazy : Bool) (m : MatchLimits) (buf : List Byte) (p : Nat) :
    lzStep isLazy m buf p =
      let f := lzFind m buf p
      let probed := isLazy = true ∧ f.len ≠ 0 ∧ p + 1 < buf.length
      let f' := if probed then lzFind m buf (p + 1) else f
      ⟨if f.len = 0 ∨ f.len < f'.len then .lit (buf.getD p 0) else .mat f.off f.len, f'⟩ := by
  by_cases h0 : (lzFind m buf p).len = 0
  · cases isLazy <;> simp [lzStep, lzStepGreedy, lzStepLazy, h0]
  · cases isLazy with
    | false => simp [lzStep, lzStepGreedy, h0]
    | true =>
      by_cases hp : p + 1 < buf.length
      · by_cases hlt : (lzFind m buf p).len < (lzFind m buf (p + 1)).len
        · simp [lzStep, lzStepLazy, h0, hp, hlt]
        · simp [lzStep, lzStepLazy, h0, hp, hlt]
      · simp [lzStep, lzStepLazy, h0, hp]

/-- A step gives the literal at its position or a valid match there. -/
theorem lzStep_token_cases (isLazy : Bool) (m : MatchLimits) (buf : List Byte) (p : Nat) :
    (lzStep isLazy m buf p).token = .lit (buf.getD p 0) ∨
    ∃ off len, (lzStep isLazy m buf p).token = .mat off len ∧ ValidMatch m buf p off len := by
  obtain ⟨f', ht⟩ : ∃ f' : Found, (lzStep isLazy m buf p).token =
      if (lzFind m buf p).len = 0 ∨ (lzFind m buf p).len < f'.len then .lit (buf.getD p 0)
      else .mat (lzFind m buf p).off (lzFind m buf p).len := ⟨_, by rw [lzStep_eq]⟩
  rw [ht]
  split
  · exact .inl rfl
  · next h => exact .inr ⟨_, _, rfl, lzFind_valid fun h0 => h (.inl h0)⟩

/-- A token covers at least one byte, and none past the end of the block. -/
theorem lzStep_span (isLazy : Bool) {m : MatchLimits} {buf : List Byte} {p : Nat} (hm : 1 ≤ m.minMatch)
    (hp : p < buf.length) :
    1 ≤ (lzStep isLazy m buf p).token.span ∧ p + (lzStep isLazy m buf p).token.span ≤ buf.length := by
  obtain ht | ⟨off, len, ht, _, _, hlen, hcap, _⟩ := lzStep_token_cases isLazy m buf p
  · rw [ht]; exact ⟨Nat.le_refl 1, hp⟩
  · have := matchCap_le m buf.length p
    simp only [ht, Token.span]
    omega

/-! ### Expanding tokens (R178, R181, R184) -/

theorem take_append_getD {buf : List Byte} {p : Nat} (hp : p < buf.length) :
    buf.take p ++ [buf.getD p 0] = buf.take (p + 1) := by
  rw [List.take_add_one, List.getD_eq_getElem?_getD, List.getElem?_eq_getElem hp]; rfl

/-- Copying a valid match after the bytes before it gives the bytes it covers, its own output included (R181). -/
theorem copyBytes_take {off len p : Nat} {buf : List Byte} (h1 : 1 ≤ off) (hoff : off ≤ p)
    (hlen : p + len ≤ buf.length) (h : ∀ k, k < len → buf.getD (p + k) 0 = buf.getD (p - off + k) 0) :
    copyBytes off len (buf.take p) = buf.take (p + len) := by
  induction len generalizing p with
  | zero => rfl
  | succ len ih =>
    have hp : p < buf.length := by omega
    have hback : (buf.take p).getD ((buf.take p).length - off) 0 = buf.getD p 0 := by
      rw [List.length_take_of_le hp.le, List.getD_eq_getElem?_getD, List.getElem?_take_of_lt (by omega),
        ← List.getD_eq_getElem?_getD]
      exact (h 0 (Nat.succ_pos len)).symm
    rw [copyBytes, hback, take_append_getD hp, ih (by omega) (by omega), Nat.add_assoc, Nat.add_comm 1]
    intro k hk
    have hk' := h (k + 1) (Nat.succ_lt_succ hk)
    rwa [show p + (k + 1) = p + 1 + k by omega, show p - off + (k + 1) = p + 1 - off + k by omega] at hk'

/-- The token of a step expands to the bytes it covers. -/
theorem expand_lzStep (isLazy : Bool) {m : MatchLimits} {buf : List Byte} {p : Nat} (hp : p < buf.length)
    (ts : List Token) :
    expand (buf.take p) ((lzStep isLazy m buf p).token :: ts) =
      expand (buf.take (p + (lzStep isLazy m buf p).token.span)) ts := by
  obtain ht | ⟨off, len, ht, h1, hoff, _, hcap, hagree⟩ := lzStep_token_cases isLazy m buf p
  · rw [ht, expand, take_append_getD hp]; rfl
  · have := matchCap_le m buf.length p
    rw [ht, expand, copyBytes_take h1 (by omega) (by omega) hagree]; rfl

theorem expand_lzTokens (isLazy : Bool) {m : MatchLimits} {buf : List Byte} {fuel p : Nat} (hm : 1 ≤ m.minMatch)
    (hp : p ≤ buf.length) (hfuel : buf.length ≤ p + fuel) :
    expand (buf.take p) (lzTokens isLazy m buf fuel p) = buf := by
  induction fuel generalizing p with
  | zero => exact List.take_of_length_le hfuel
  | succ fuel ih =>
    rw [lzTokens]
    split
    · next hlt =>
      obtain ⟨h1, hle⟩ := lzStep_span isLazy hm hlt
      rw [expand_lzStep isLazy hlt, ih hle (by omega)]
    · next hge => exact List.take_of_length_le (Nat.le_of_not_lt hge)

/-- Settles O12: each token expands to the bytes it covers, and the tokens cover the block. -/
theorem tokensExpandToTheBlock : Obligations.TokensExpandToTheBlock := by
  intro isLazy m buf hm
  rw [lzBlock, ← List.take_zero (l := buf)]
  exact expand_lzTokens isLazy hm (Nat.zero_le _) (by omega)

end Sys2Proof.Proofs


/-! PROOFS. A copy reads its own output (O14), and the tokens decode into the window of the session or of an engine
(O24): an engine decodes as a session whose window is the engine's. -/

namespace Sys2Proof.Proofs

open Machine Safety Laws

/-- Settles O14: a copy produces the bytes found back in the window it leaves. -/
theorem copyReadsItsOwnOutput : Obligations.CopyReadsItsOwnOutput := by
  intro off len s hf h1 hoff hw
  obtain ⟨bs, hcopy, hlen, hback⟩ := copyOut_spec hf h1 hoff hw
  exact ⟨bs, _, hcopy, hlen, produces_litsOut bs (hlen ▸ hw), hback⟩

/-! ### An engine's window (R180, R181, R328) -/

theorem engLitOut_unp {b : Byte} {g : Engine} {s : State} (h : s.unp = g.unp) :
    (litOut b s).unp = (engLitOut b g).unp := by
  rw [litOut_unp, h]; rfl

theorem engLitsOut_unp {bs : List Byte} {g : Engine} {s : State} (h : s.unp = g.unp) :
    (litsOut bs s).unp = (engLitsOut bs g).unp := by
  induction bs generalizing g s with
  | nil => exact h
  | cons b bs ih => exact ih (engLitOut_unp h)

/-- An engine copies what a session with the same window copies. -/
theorem engCopyOut_of_copyOut {off n : Nat} {g : Engine} {s t : State} (hu : s.unp = g.unp)
    (h : copyOut off n s = some t) :
    ∃ bs, bs.length = n ∧ t = litsOut bs s ∧ engCopyOut off n g = some (engLitsOut bs g) := by
  induction n generalizing g s with
  | zero => cases h; exact ⟨[], rfl, rfl, rfl⟩
  | succ n ih =>
    rw [copyOut, hu] at h
    rw [engCopyOut]
    split at h
    · cases h
    · next b hb =>
      obtain ⟨bs, hlen, ht, hcopy⟩ := ih (engLitOut_unp hu) h
      exact ⟨b :: bs, congrArg Nat.succ hlen, ht, by simp only [hcopy, engLitsOut]⟩

/-- An engine produces what a session with the same window produces. -/
theorem engineProduces_of_produces {bs : List Byte} {g : Engine} {s : State} (hu : s.unp = g.unp)
    (h : Produces bs s (litsOut bs s)) : EngineProduces bs g (engLitsOut bs g) := by
  obtain ⟨_, hread, _⟩ := h
  rw [engLitsOut_unp hu, hu] at hread
  obtain ⟨m, hm⟩ := engLitsOut_eq bs g
  exact ⟨by rw [hm], hread⟩

theorem engCopyOut_spec {off n : Nat} {g : Engine} (hf : WindowFilled g.unp) (h1 : 1 ≤ off)
    (hoff : off ≤ g.unp.produced.toNat) (hw : g.unp.produced.toNat + n < 2 ^ 64) :
    ∃ bs h, engCopyOut off n g = some h ∧ bs.length = n ∧ EngineProduces bs g h ∧
      ∀ j, j < n → h.unp.outwin.read (g.unp.produced.toNat + j) =
        h.unp.outwin.read (g.unp.produced.toNat + j - off) := by
  obtain ⟨s, hu⟩ : ∃ s : State, s.unp = g.unp := ⟨{ State.reset with unp := g.unp }, rfl⟩
  rw [← hu] at hf hoff hw ⊢
  obtain ⟨_, hcopy, _, hback⟩ := copyOut_spec hf h1 hoff hw
  obtain ⟨bs, hlen, ht, hcopy'⟩ := engCopyOut_of_copyOut hu hcopy
  rw [ht, engLitsOut_unp hu] at hback
  exact ⟨bs, _, hcopy', hlen, engineProduces_of_produces hu (produces_litsOut bs (hlen.symm ▸ hw)), hback⟩

/-! ### The decoder's tokens (R92, R180, R181) -/

section
variable {s : State} (hd : s.dir = .decompress)
include hd

theorem exec_eob_decompress : exec .eob s = .next s := by
  simp only [exec, execEob, hd]

theorem exec_lit_decompress (hc : codec s ≠ .lz4) (b : Byte) : exec (.lit b) s = .next (litOut b s) := by
  simp only [exec, execLit, hd, tokLitOut, if_neg hc]

theorem exec_matchTok_decompress (hc : codec s ≠ .lz4) (off : BitVec 17) (len : BitVec 16) :
    exec (.matchTok off len) s = ofRead (copyOut off.toNat len.toNat s) fun t => .next t := by
  simp only [exec, execMatchTok, hd, tokCopyOut, if_neg hc]

variable {g : Engine} (hc : codec s = .lz4) (hg : s.engines[s.actor]? = some g)
include hc hg

theorem exec_lit_decompress_lz4 (b : Byte) : exec (.lit b) s = .next (setEngine s.actor (engLitOut b g) s) := by
  simp only [exec, execLit, hd, tokLitOut, if_pos hc, withEngine, hg]

theorem exec_matchTok_decompress_lz4 (off : BitVec 17) (len : BitVec 16) :
    exec (.matchTok off len) s =
      ofRead (engCopyOut off.toNat len.toNat g) fun h => .next (setEngine s.actor h s) := by
  simp only [exec, execMatchTok, hd, tokCopyOut, if_pos hc, withEngine, hg]

end

/-- Settles O24: a literal produces its byte and a match its copy, in the window of the session or of the engine. -/
theorem tokensDecodeIntoTheWindow : Obligations.TokensDecodeIntoTheWindow := by
  intro s b off len hd
  refine ⟨exec_eob_decompress hd, fun hc => ⟨?_, fun hf h1 hoff hw => ?_⟩,
    fun hc g hg => ⟨?_, fun hf h1 hoff hw => ?_⟩⟩
  · exact ⟨_, exec_lit_decompress hd hc b, produces_litOut b s⟩
  · obtain ⟨bs, t, hcopy, hlen, hprod, hback⟩ := copyReadsItsOwnOutput _ _ s hf h1 hoff hw
    exact ⟨bs, t, by rw [exec_matchTok_decompress hd hc, hcopy, ofRead], hlen, hprod, hback⟩
  · exact ⟨_, _, exec_lit_decompress_lz4 hd hc hg b, rfl,
      engineProduces_of_produces (s := { s with unp := g.unp }) rfl (produces_litOut b _)⟩
  · obtain ⟨bs, h, hcopy, hlen, hprod, hback⟩ := engCopyOut_spec hf h1 hoff hw
    exact ⟨bs, setEngine s.actor h s, h, by rw [exec_matchTok_decompress_lz4 hd hc hg, hcopy, ofRead], rfl, hlen,
      hprod, hback⟩

end Sys2Proof.Proofs


/-! PROOFS. What an engine has written (R66, R70): the bits so far, with the unfinished byte, grow by what is put. -/

namespace Sys2Proof.Proofs

open Machine Safety Laws

/-! ### The bits an engine writes (R66, R70) -/

theorem natBits_succ_testBit (k v : Nat) : natBits (k + 1) v = natBits k v ++ [v.testBit k] := by
  rw [natBits_succ, Nat.testBit_eq_decide_div_mod_eq]; rfl

theorem natBits_congr {k v w : Nat} (h : ∀ i, i < k → v.testBit i = w.testBit i) : natBits k v = natBits k w := by
  induction k with
  | zero => rfl
  | succ k ih =>
    rw [natBits_succ_testBit, natBits_succ_testBit, ih fun i hi => h i (Nat.lt_succ_of_lt hi),
      h k (Nat.lt_succ_self k)]

/-- The unfinished byte `acc` of `n` bits with the next bit placed in it (R70). -/
theorem getLsbD_placeBit (acc : BitVec 8) (b : Bool) {n i : Nat} (hn : n < 8) (hi : i ≤ n) :
    ((acc &&& ~~~(1#8 <<< n)) ||| (BitVec.ofNat 8 (bit b) <<< n)).getLsbD i = if i = n then b else acc.getLsbD i := by
  have hbit : (BitVec.ofNat 8 (bit b)).getLsbD 0 = b := by cases b <;> rfl
  have hone : (1#8).getLsbD 0 = true := rfl
  have hi8 : i < 8 := by omega
  simp only [BitVec.getLsbD_or, BitVec.getLsbD_and, BitVec.getLsbD_not, BitVec.getLsbD_shiftLeft, hi8, decide_true,
    Bool.true_and]
  obtain hlt | rfl := Nat.lt_or_eq_of_le hi
  · simp [hlt, hlt.ne]
  · simp only [Nat.lt_irrefl, decide_false, Bool.not_false, Bool.true_and, Nat.sub_self, hbit, hone, Bool.not_true,
      Bool.and_false, Bool.false_or, if_true]

theorem natBits_placeBit (acc : BitVec 8) (b : Bool) {n : Nat} (hn : n < 8) :
    natBits (n + 1) ((acc &&& ~~~(1#8 <<< n)) ||| (BitVec.ofNat 8 (bit b) <<< n)).toNat =
      natBits n acc.toNat ++ [b] := by
  rw [natBits_succ_testBit, BitVec.testBit_toNat, getLsbD_placeBit acc b hn (Nat.le_refl n), if_pos rfl]
  refine congrArg (· ++ [b]) (natBits_congr fun i hi => ?_)
  rw [BitVec.testBit_toNat, BitVec.testBit_toNat, getLsbD_placeBit acc b hn hi.le, if_neg hi.ne]

theorem engineBits_putBit (b : Bool) (g : Engine) : engineBits (putBit b g) = engineBits g ++ [b] := by
  have hplace := natBits_placeBit g.bitacc b (n := g.bitcnt.toNat) g.bitcnt.isLt
  unfold putBit
  dsimp only
  split
  · next h7 =>
    rw [h7] at hplace
    simp only [engineBits, bitsOfBytes_append, h7, List.append_assoc]
    exact congrArg _ hplace
  · next h7 =>
    have hcnt : (g.bitcnt + 1).toNat = g.bitcnt.toNat + 1 := by bv_omega
    simp only [engineBits, hcnt, hplace, List.append_assoc]

theorem engineBits_putBitList (bs : List Bool) (g : Engine) :
    engineBits (putBitList bs g) = engineBits g ++ bs := by
  induction bs generalizing g with
  | nil => rw [putBitList, List.append_nil]
  | cons b bs ih => rw [putBitList, ih, engineBits_putBit, List.append_assoc]; rfl

theorem engineBits_putBits (v k : Nat) (g : Engine) : engineBits (putBits v k g) = engineBits g ++ natBits k v :=
  engineBits_putBitList _ g

theorem onlyWrote_refl (g : Engine) : OnlyWrote g g := ⟨rfl, [], by simp⟩

theorem onlyWrote_trans {g h k : Engine} (a : OnlyWrote g h) (b : OnlyWrote h k) : OnlyWrote g k := by
  obtain ⟨ha, as, hbytes, hlen⟩ := a
  obtain ⟨hb, bs, kbytes, klen⟩ := b
  refine ⟨?_, as ++ bs, ?_, ?_⟩
  · rw [hb, ha]
  · rw [kbytes, hbytes, List.append_assoc]
  · rw [klen, hlen, List.length_append, BitVec.ofNat_add, BitVec.add_assoc]

theorem onlyWrote_putBit (b : Bool) (g : Engine) : OnlyWrote g (putBit b g) := by
  unfold putBit
  dsimp only
  split
  · exact ⟨rfl, [_], rfl, rfl⟩
  · exact ⟨rfl, [], by simp⟩

theorem onlyWrote_putBitList (bs : List Bool) (g : Engine) : OnlyWrote g (putBitList bs g) := by
  induction bs generalizing g with
  | nil => exact onlyWrote_refl g
  | cons b bs ih => exact onlyWrote_trans (onlyWrote_putBit b g) (ih _)

theorem onlyWrote_putBits (v k : Nat) (g : Engine) : OnlyWrote g (putBits v k g) := onlyWrote_putBitList _ g

theorem engineBits_putHeader (n : Nat) (g : Engine) :
    engineBits (putHeader n g) = engineBits g ++ g.unit.isFinal :: natBits 2 n := by
  have hfinal : natBits 1 (bit g.unit.isFinal) = [g.unit.isFinal] := by cases g.unit.isFinal <;> rfl
  rw [putHeader, engineBits_putBits, engineBits_putBits, hfinal, List.append_assoc]; rfl

theorem onlyWrote_putHeader (n : Nat) (g : Engine) : OnlyWrote g (putHeader n g) :=
  onlyWrote_trans (onlyWrote_putBits _ 1 g) (onlyWrote_putBits n 2 _)

theorem putBit_job (b : Bool) (j : Job) (g : Engine) :
    { putBit b g with job := j } = putBit b { g with job := j } := by
  unfold putBit
  dsimp only
  split <;> rfl

/-- What an engine writes does not depend on its `job`. -/
theorem putBitList_job (bs : List Bool) (j : Job) (g : Engine) :
    { putBitList bs g with job := j } = putBitList bs { g with job := j } := by
  induction bs generalizing g with
  | nil => rfl
  | cons b bs ih => rw [putBitList, ih, putBit_job, putBitList]

end Sys2Proof.Proofs


/-! PROOFS. The turns of an engine that tokenises its block (O13). -/

namespace Sys2Proof.Proofs

open Machine Safety Laws

/-! ### The end of the tokens (R178, R241, R243, R245, R315, R355) -/

section
variable {s : State} (g : Engine)

/-- The packer of a fixed block begins with the trees of R106 and the header bits (R241, R243). -/
theorem endTokens_fixed (hc : (codec s).isDeflate = true) (hm : treeModeOf s.scfg.cfg = 1) :
    endTokens s g = putHeader 1 { g with tokbuf := g.tokbuf ++ [0x8000000000], tokRd := 0, cov := 0, job := .pack,
                                         tabs := g.tabs.fixed } := by
  simp only [endTokens, if_pos hc, if_pos hm, putHeader, putBits]
  rw [putBitList_job, putBitList_job]; rfl

theorem onlyWrote_endTokens (hc : (codec s).isDeflate = true) (hm : treeModeOf s.scfg.cfg = 1) :
    OnlyWrote { g with tokbuf := g.tokbuf ++ [0x8000000000], tokRd := 0, cov := 0, job := .pack,
                       tabs := g.tabs.fixed } (endTokens s g) := by
  rw [endTokens_fixed g hc hm]
  exact onlyWrote_putHeader 1 _

theorem engineBits_endTokens (hc : (codec s).isDeflate = true) (hm : treeModeOf s.scfg.cfg = 1) :
    engineBits (endTokens s g) = engineBits g ++ [g.unit.isFinal, true, false] := by
  rw [endTokens_fixed g hc hm, engineBits_putHeader]; rfl

theorem endTokens_tabs (hc : (codec s).isDeflate = true) (hm : treeModeOf s.scfg.cfg = 1) :
    (endTokens s g).tabs = g.tabs.fixed := by
  obtain ⟨h, -⟩ := onlyWrote_endTokens g hc hm
  rw [h]

/-- The statistics of a dynamic block begin at 0 (R245). -/
theorem endTokens_dynamic (hc : (codec s).isDeflate = true) (hm : treeModeOf s.scfg.cfg ≠ 1) :
    endTokens s g =
      { g with tokbuf := g.tokbuf ++ [0x8000000000], tokRd := 0, cov := 0, job := .count,
               freqLL := List.replicate 286 0, freqD := List.replicate 30 0, freqCL := List.replicate 19 0 } := by
  simp only [endTokens, if_pos hc, if_neg hm]; rfl

/-- The packers of LZ4 and Snappy begin with no pending literal (R315, R355). -/
theorem endTokens_bytes (hc : ¬ (codec s).isDeflate = true) :
    endTokens s g =
      { g with tokbuf := g.tokbuf ++ [0x8000000000], tokRd := 0, cov := 0, job := .pack, litrun := 0 } := by
  simp only [endTokens, if_neg hc]; rfl

/-- At the end of the tokens the engine stays busy, `EOB` is appended and `TOKBUF` is read from its beginning, whatever
packs (R178). -/
theorem endTokens_common (s : State) :
    (endTokens s g).st = g.st ∧ (endTokens s g).tokbuf = g.tokbuf ++ [0x8000000000] ∧ (endTokens s g).tokRd = 0 ∧
      (endTokens s g).cov = 0 := by
  by_cases hc : (codec s).isDeflate = true
  · by_cases hm : treeModeOf s.scfg.cfg = 1
    · obtain ⟨h, -⟩ := onlyWrote_endTokens g hc hm
      rw [h]
      exact ⟨rfl, rfl, rfl, rfl⟩
    · rw [endTokens_dynamic g hc hm]
      exact ⟨rfl, rfl, rfl, rfl⟩
  · rw [endTokens_bytes g hc]
    exact ⟨rfl, rfl, rfl, rfl⟩

end

/-! ### One turn of `LZ.BLOCK` (R176, R177, R178) -/

/-- The engine after the turn that appends the token at `POS` (R176, R177). -/
def tokenised (s : State) (bs : List Byte) (g : Engine) : Engine :=
  let r := lzStep (lazyOf s.scfg.cfg) (matchLimits s) bs g.pos.toNat
  { g with moff := BitVec.ofNat 17 r.found.off, mlen := BitVec.ofNat 16 r.found.len,
           tokbuf := g.tokbuf ++ [wordOf r.token], lookup := g.pos.toNat :: g.lookup,
           pos := g.pos + BitVec.ofNat 23 r.token.span }

theorem tokeniseStep_eq {s : State} {g : Engine} {bs : List Byte} (h : BlockIs g bs) :
    tokeniseStep s g = some (if g.pos.toNat < bs.length then tokenised s bs g else endTokens s g) := by
  rw [tokeniseStep, ← h.1]
  split
  · simp only [blockData_of_blockIs h, tokenised]
  · rfl

/-- Engine `e` is in the loop of `LZ.BLOCK` over the block `bs` (R178). -/
structure Tokenising (s : State) (e : Nat) (g : Engine) (bs : List Byte) : Prop where
  busy : busy s = true
  engine : s.engines[e]? = some g
  st : g.st = .busy
  job : g.job = .tokenise
  block : BlockIs g bs

theorem step_tokenise {s : State} {rest : List Turn} {e : Nat} {g : Engine} {bs : List Byte}
    (h : Tokenising s e g bs) (hag : s.agenda = .agent (.engine e) :: rest) :
    step s = .next (setEngine e (if g.pos.toNat < bs.length then tokenised s bs g else endTokens s g)
      { s with agenda := rest }) := by
  obtain ⟨hb, hg, hst, hj, hblk⟩ := h
  have hb' : Machine.busy { s with agenda := rest } = true := hb
  refine step_of_act hag (turnFetch_of_some ?_)
  simp only [agentTurn, engineTurn, hg, hb', hst, hj, and_self, if_true, tokeniseStep_eq hblk, engineAct]
  rfl

/-- A token leaves the engine in the loop. -/
theorem Tokenising.next {s : State} {e : Nat} {g : Engine} {bs : List Byte} (h : Tokenising s e g bs)
    (rest : List Turn) :
    Tokenising (setEngine e (tokenised s bs g) { s with agenda := rest }) e (tokenised s bs g) bs :=
  ⟨h.busy, List.getElem?_set_self (List.getElem?_eq_some_iff.mp h.engine).1, h.st, h.job, h.block⟩

theorem one_le_minMatch (s : State) : 1 ≤ (matchLimits s).minMatch := by
  unfold matchLimits
  split <;> exact Nat.succ_pos _

/-- `POS` passes the token (R176, R177). -/
theorem tokenised_pos {s : State} {g : Engine} {bs : List Byte} (hblk : BlockIs g bs) (hp : g.pos.toNat < bs.length) :
    (tokenised s bs g).pos.toNat =
      g.pos.toNat + (lzStep (lazyOf s.scfg.cfg) (matchLimits s) bs g.pos.toNat).token.span := by
  obtain ⟨_, hle⟩ := lzStep_span (lazyOf s.scfg.cfg) (one_le_minMatch s) hp
  have hlen : bs.length < 2 ^ 23 := hblk.1 ▸ g.blklen.isLt
  simp only [tokenised, BitVec.toNat_add, BitVec.toNat_ofNat]
  omega

/-! ### All turns of `LZ.BLOCK` (R178) -/

theorem lzTokens_of_end {isLazy : Bool} {m : MatchLimits} {buf : List Byte} {fuel p : Nat} (h : ¬ p < buf.length) :
    lzTokens isLazy m buf fuel p = [] := by
  cases fuel with
  | zero => rfl
  | succ fuel => rw [lzTokens, if_neg h]

/-- The turns from `POS` on append the words of the tokens from there on, then `EOB`. -/
theorem run_tokenise {rest : List Turn} {e : Nat} {bs : List Byte} {fuel : Nat} {s : State} {g : Engine}
    {ts : List Token} (h : Tokenising s e g bs) (hfuel : bs.length ≤ g.pos.toNat + fuel)
    (hts : lzTokens (lazyOf s.scfg.cfg) (matchLimits s) bs fuel g.pos.toNat = ts)
    (hag : s.agenda = List.replicate (ts.length + 1) (.agent (.engine e)) ++ rest) :
    ∃ k, Sys2Proof.core.run (ts.length + 1) s = .next (setEngine e k { s with agenda := rest }) ∧ k.st = .busy ∧
      k.tokbuf = g.tokbuf ++ ts.map wordOf ++ [0x8000000000] := by
  induction ts generalizing s g fuel with
  | nil =>
    have hp : ¬ g.pos.toNat < bs.length := fun hp => by
      obtain _ | fuel := fuel
      · omega
      · rw [lzTokens, if_pos hp] at hts; cases hts
    obtain ⟨hst, htok, _⟩ := endTokens_common g s
    refine ⟨endTokens s g, ?_, hst.trans h.st, by rw [htok, List.map_nil, List.append_nil]⟩
    rw [run_next _ (step_tokenise h hag), if_neg hp]; rfl
  | cons t ts ih =>
    have hp : g.pos.toNat < bs.length := by
      by_contra hp
      rw [lzTokens_of_end hp] at hts
      cases hts
    obtain ⟨hspan, _⟩ := lzStep_span (lazyOf s.scfg.cfg) (one_le_minMatch s) hp
    have hpos := tokenised_pos (s := s) h.block hp
    obtain _ | fuel := fuel
    · omega
    rw [lzTokens, if_pos hp, ← hpos] at hts
    obtain ⟨rfl, htail⟩ := List.cons.inj hts
    obtain ⟨k, hrun, hst, htok⟩ := ih (h.next _) (fuel := fuel) (by omega) htail rfl
    refine ⟨k, ?_, hst, ?_⟩
    · rw [List.length_cons, run_next _ (step_tokenise h hag), if_pos hp]
      refine hrun.trans ?_
      simp only [setEngine, List.set_set]
    · rw [htok, List.map_cons, tokenised, List.append_assoc g.tokbuf]; rfl

/-! ### The words of the tokens (R92) -/

theorem decode_wordOf_lit (b : Byte) : decode .token (natBits 40 (wordOf (.lit b)).toNat) = .ok (.lit b) [] := by
  have h := ownFormatsRoundTrip .token (.lit b) [] (by simp) rfl
  rwa [List.append_nil] at h

theorem decode_wordOf_mat {off len : Nat} (ho : off < 2 ^ 17) (hl : len < 2 ^ 16) :
    decode .token (natBits 40 (wordOf (.mat off len)).toNat) =
      .ok (.matchTok (BitVec.ofNat 17 off) (BitVec.ofNat 16 len)) [] := by
  have h := ownFormatsRoundTrip .token (.matchTok (BitVec.ofNat 17 off) (BitVec.ofNat 16 len)) [] (by simp) rfl
  rw [List.append_nil, encode, BitVec.toNat_ofNat, BitVec.toNat_ofNat, Nat.mod_eq_of_lt ho, Nat.mod_eq_of_lt hl] at h
  exact h

/-- Settles O13: a turn is `tokeniseStep`, which appends the token of `lzStep` or ends the tokens; the turns of a block
follow the recursion of `lzTokens`. -/
theorem tokenisingFillsTokbuf : Obligations.TokenisingFillsTokbuf := by
  refine ⟨?_, ?_, decode_wordOf_lit, fun off len => decode_wordOf_mat⟩
  · rintro s rest e g bs ⟨hag, hb, hg, hst⟩ hj hblk
    have hstep := step_tokenise ⟨hb, hg, hst, hj, hblk⟩ hag
    by_cases hp : g.pos.toNat < bs.length
    · rw [if_pos hp] at hstep
      refine ⟨_, _, hstep, rfl, fun _ => ?_, fun hend => absurd hp (Nat.not_lt.mpr hend)⟩
      have hpos := tokenised_pos (s := s) hblk hp
      rw [lzStep_eq] at hpos
      exact ⟨by rw [tokenised, lzStep_eq], hpos⟩
    · rw [if_neg hp] at hstep
      refine ⟨_, _, hstep, rfl, fun h => absurd h hp, fun _ => ?_⟩
      obtain ⟨_, htok, hrd, hcov⟩ := endTokens_common g s
      refine ⟨htok, hrd, hcov, ?_⟩
      rw [htok]
      split
      · next hc =>
        split
        · next hm =>
          rw [endTokens_tabs g hc hm]
          exact ⟨onlyWrote_endTokens g hc hm, engineBits_endTokens g hc hm, fixed_treeLL _, fixed_treeD _, rfl, rfl⟩
        · next hm => exact endTokens_dynamic g hc hm
      · next hc => exact endTokens_bytes g hc
  · intro s rest e g bs n hag hb hg hst hj hpos htb hblk
    have hp : g.pos.toNat = 0 := by rw [hpos]; rfl
    obtain ⟨k, hrun, hkst, htok⟩ := run_tokenise (rest := rest) (fuel := bs.length) ⟨hb, hg, hst, hj, hblk⟩
      (by omega) rfl (by rw [hp]; exact hag)
    rw [hp] at hrun htok
    rw [htb, List.nil_append] at htok
    exact ⟨_, k, hrun, rfl, hkst, htok⟩

end Sys2Proof.Proofs


/-! PROOFS. The codes of `HUF.ASSIGN` do not begin one another (O6): a length's codes follow on from those of the
lengths below it, and the Kraft sum bounds the last one. -/

namespace Sys2Proof.Proofs

open Machine Safety

/-! ### The Kraft sum of a table (R201) -/

/-- What one length adds to the Kraft sum with respect to `l` (R201). -/
def kraftTerm (l n : Nat) : Nat := if n = 0 then 0 else 2 ^ (l - n)

theorem kraft_eq_sum (l : Nat) (lens : List Nat) : kraft l lens = (lens.map (kraftTerm l)).sum := by
  induction lens with
  | nil => rfl
  | cons n ns ih => rw [kraft, ih, List.map_cons, List.sum_cons, kraftTerm]

theorem kraft_filter_le (l : Nat) (p : Nat → Bool) (lens : List Nat) : kraft l (lens.filter p) ≤ kraft l lens := by
  rw [kraft_eq_sum, kraft_eq_sum]
  exact (List.filter_sublist.map _).sum_le_sum (fun _ _ => Nat.zero_le _)

/-- The Kraft sum of the lengths to `b + 1`: those to `b`, and `2 ^ (l - (b + 1))` for each symbol of length `b + 1`. -/
theorem kraft_filter_succ (l b : Nat) (lens : List Nat) :
    kraft l (lens.filter (· ≤ b + 1)) = kraft l (lens.filter (· ≤ b)) + lens.count (b + 1) * 2 ^ (l - (b + 1)) := by
  induction lens with
  | nil => simp [kraft]
  | cons n ns ih =>
    rcases Nat.lt_trichotomy n (b + 1) with h | rfl | h
    · simp [kraft, ih, Nat.le_of_lt_succ h, Nat.le_of_lt h, Nat.ne_of_lt h, Nat.add_assoc]
    · simp [kraft, ih, Nat.add_mul]; omega
    · simp [ih, Nat.not_le.mpr h, Nat.not_le.mpr (Nat.lt_of_succ_lt h), Nat.ne_of_gt h]

/-! ### The first code of each length (R208) -/

/-- The first code value past those of length `b` is the Kraft sum of the lengths to `b`. -/
theorem codeEnd_eq_kraft {l b : Nat} (lens : List Nat) (hb : b ≤ l) :
    (firstCode lens b + lenCount lens b) * 2 ^ (l - b) = kraft l (lens.filter (· ≤ b)) := by
  induction b with
  | zero =>
    have hz : ∀ n ∈ lens.filter (· ≤ 0), kraftTerm l n = 0 := by simp [kraftTerm]
    rw [kraft_eq_sum, List.map_congr_left hz]
    simp [firstCode, lenCount]
  | succ b ih =>
    have hpow : 2 ^ (l - b) = 2 * 2 ^ (l - (b + 1)) := by rw [← Nat.pow_succ', Nat.succ_eq_add_one]; congr 1; omega
    rw [kraft_filter_succ, ← ih (Nat.le_of_succ_le hb), firstCode, hpow]
    simp only [lenCount, Nat.add_one_ne_zero, if_false]
    ring

theorem codeEnd_le {l b : Nat} {lens : List Nat} (hk : kraft l lens ≤ 2 ^ l) (hb : b ≤ l) :
    firstCode lens b + lenCount lens b ≤ 2 ^ b := by
  refine Nat.le_of_mul_le_mul_right ?_ (Nat.two_pow_pos (l - b))
  rw [codeEnd_eq_kraft lens hb, ← Nat.pow_add, Nat.add_sub_cancel' hb]
  exact (kraft_filter_le ..).trans hk

/-- The codes of a longer length begin past those of `b`. -/
theorem codeEnd_le_firstCode (lens : List Nat) (b k : Nat) :
    (firstCode lens b + lenCount lens b) * 2 ^ (k + 1) ≤ firstCode lens (b + (k + 1)) := by
  induction k with
  | zero => rw [← Nat.add_assoc, firstCode]; omega
  | succ k ih => rw [Nat.pow_succ, ← Nat.mul_assoc, ← Nat.add_assoc b, firstCode]; omega

/-! ### The code of each symbol (R208) -/

theorem length_assignFrom (lens seen ns : List Nat) : (assignFrom lens seen ns).length = ns.length := by
  induction ns generalizing seen with
  | nil => rfl
  | cons n ns ih => rw [assignFrom, List.length_cons, ih, List.length_cons]

theorem assignFrom_getD (lens seen ns : List Nat) (a : Nat) :
    (assignFrom lens seen ns).getD a 0 =
      if ns.getD a 0 = 0 then 0
      else firstCode lens (ns.getD a 0) + (seen.count (ns.getD a 0) + (ns.take a).count (ns.getD a 0)) := by
  induction ns generalizing seen a with
  | nil => rfl
  | cons n ns ih =>
    cases a with
    | zero => rfl
    | succ a =>
      simp only [assignFrom, List.getD_cons_succ, ih, List.take_succ_cons, List.count_cons]
      split
      · rfl
      · omega

theorem assignCodes_getD_zero {lens : List Nat} {a : Nat} (ha : lens.getD a 0 = 0) : (assignCodes lens).getD a 0 = 0 := by
  rw [assignCodes, assignFrom_getD, if_pos ha]

/-- The code of a symbol: the first of its length, and one more for each symbol of that length before it (R208). -/
theorem assignCodes_getD {lens : List Nat} {a : Nat} (ha : lens.getD a 0 ≠ 0) :
    (assignCodes lens).getD a 0 = firstCode lens (lens.getD a 0) + (lens.take a).count (lens.getD a 0) := by
  rw [assignCodes, assignFrom_getD, if_neg ha, List.count_nil, Nat.zero_add]

/-- The symbols before one do not use up its length's count. -/
theorem count_take_lt {lens : List Nat} {a b : Nat} (hab : a < b) (ha : a < lens.length) :
    (lens.take a).count (lens.getD a 0) < (lens.take b).count (lens.getD a 0) := by
  have hmem : (lens.take (a + 1)).count (lens.getD a 0) = (lens.take a).count (lens.getD a 0) + 1 := by
    rw [List.take_succ_eq_append_getElem ha, List.count_append, List.getD_eq_getElem _ _ ha, List.count_singleton_self]
  rw [Nat.lt_iff_add_one_le, ← hmem]
  exact (List.take_sublist_take_left hab).count_le _

theorem assignCodes_lt_codeEnd {lens : List Nat} {a : Nat} (ha : lens.getD a 0 ≠ 0) (hlt : a < lens.length) :
    (assignCodes lens).getD a 0 < firstCode lens (lens.getD a 0) + lenCount lens (lens.getD a 0) := by
  have h := count_take_lt hlt hlt
  rw [List.take_length] at h
  rw [assignCodes_getD ha, lenCount, if_neg ha]
  omega

/-- Settles O6: codes of one length differ by the symbols before, those of a longer length begin past the shorter code,
and the Kraft sum keeps a length's last code within the length. -/
theorem canonicalCodesArePrefixFree : Obligations.CanonicalCodesArePrefixFree := by
  intro l lens hle hover
  have hk : kraft l lens ≤ 2 ^ l := by simpa [overSubscribed] using hover
  refine ⟨length_assignFrom .., fun a => ?_, fun a b ha hlt hne hna hnb hab => ?_⟩
  · change (assignCodes lens).getD a 0 < 2 ^ lens.getD a 0
    by_cases hna : lens.getD a 0 = 0
    · rw [assignCodes_getD_zero hna]
      exact Nat.two_pow_pos _
    · have ha : a < lens.length := lt_length_of_code (t := treeOf lens) hna
      have hal : lens.getD a 0 ≤ l := hle _ (List.getD_eq_getElem lens 0 ha ▸ List.getElem_mem ha)
      exact (assignCodes_lt_codeEnd hna ha).trans_le (codeEnd_le hk hal)
  · simp only [treeOf] at *
    obtain ⟨k, hb⟩ := Nat.exists_eq_add_of_le hab
    rw [Nat.sub_eq_of_eq_add' hb]
    cases k with
    | zero =>
      rw [Nat.pow_zero, Nat.div_one, assignCodes_getD hna, assignCodes_getD hnb, hb, Nat.add_zero]
      rcases Nat.lt_or_gt_of_ne hne with h | h
      · have := count_take_lt h ha; omega
      · have := count_take_lt h hlt; rw [hb, Nat.add_zero] at this; omega
    | succ k =>
      refine Nat.ne_of_gt ((assignCodes_lt_codeEnd hna ha).trans_le ?_)
      rw [Nat.le_div_iff_mul_le (Nat.two_pow_pos _), assignCodes_getD hnb, hb]
      exact (codeEnd_le_firstCode lens _ k).trans (Nat.le_add_right ..)

end Sys2Proof.Proofs


/-! PROOFS. The merge tree of `HUF.BUILD` (R203 to R205): its leaves are the active symbols, each once, and the
halves to the power of their depths sum to 1. -/

namespace Sys2Proof.Proofs

open Machine

/-! ### The active symbols (R203) -/

/-- The symbols of a list of pairs of a symbol and its frequency, depth or length. -/
abbrev symbolsOf (ps : List (Nat × Nat)) : List Nat := ps.map Prod.fst

theorem activeFrom_eq (i : Nat) (fs : List Nat) :
    activeFrom i fs = ((fs.zipIdx i).filter (·.1 ≠ 0)).map Prod.swap := by
  induction fs generalizing i with
  | nil => rfl
  | cons f fs ih =>
    rw [activeFrom, List.zipIdx_cons, ih]
    split
    · next h => simp [h]
    · next h => simp [h]

theorem symbolsOf_activeFrom (fs : List Nat) :
    symbolsOf (activeFrom 0 fs) = ((fs.zipIdx 0).filter (·.1 ≠ 0)).map Prod.snd := by
  rw [activeFrom_eq, symbolsOf, List.map_map]; rfl

theorem nodup_active (fs : List Nat) : (symbolsOf (activeFrom 0 fs)).Nodup := by
  rw [symbolsOf_activeFrom]
  refine (List.filter_sublist.map Prod.snd).nodup ?_
  rw [List.zipIdx_map_snd]
  exact List.nodup_range'

theorem mem_active {fs : List Nat} {s : Nat} : s ∈ symbolsOf (activeFrom 0 fs) ↔ 0 < fs.getD s 0 := by
  rw [symbolsOf_activeFrom, List.getD_eq_getElem?_getD]
  cases h : fs[s]? <;> simp [List.mem_zipIdx_iff_getElem?, h, Nat.pos_iff_ne_zero]

theorem lt_of_mem_active {fs : List Nat} {s : Nat} (h : s ∈ symbolsOf (activeFrom 0 fs)) : s < fs.length := by
  by_contra hs
  exact Nat.ne_of_gt (mem_active.mp h) (List.getD_eq_default _ _ (Nat.le_of_not_lt hs))

theorem length_active_le (i : Nat) (fs : List Nat) : (activeFrom i fs).length ≤ fs.length := by
  have h := List.length_filter_le (·.1 ≠ 0) (fs.zipIdx i)
  rwa [List.length_zipIdx, ← List.length_map Prod.swap, ← activeFrom_eq] at h

/-! ### Padding (R203) -/

theorem length_padOne (fs : List Nat) : (padOne fs).length = fs.length := by
  induction fs with
  | nil => rfl
  | cons f fs ih => rw [padOne]; split <;> simp [ih]

/-- Padding takes no symbol out and, where one has no frequency, puts one in. -/
theorem length_active_padOne (i : Nat) (fs : List Nat) :
    (activeFrom i (padOne fs)).length = min ((activeFrom i fs).length + 1) fs.length := by
  induction fs generalizing i with
  | nil => rfl
  | cons f fs ih =>
    by_cases hf : f = 0
    · simp [padOne, activeFrom, hf, length_active_le]
    · simp [padOne, activeFrom, hf, ih]

theorem getD_le_padOne (fs : List Nat) (s : Nat) : fs.getD s 0 ≤ (padOne fs).getD s 0 := by
  induction fs generalizing s with
  | nil => exact Nat.le_refl _
  | cons f fs ih =>
    rw [padOne]
    split
    · next h => cases s <;> simp [h]
    · cases s with
      | zero => exact Nat.le_refl _
      | succ s => exact ih s

theorem length_padFreq (fs : List Nat) : (padFreq fs).length = fs.length := by
  rw [padFreq]; split <;> simp [length_padOne]

theorem getD_le_padFreq (fs : List Nat) (s : Nat) : fs.getD s 0 ≤ (padFreq fs).getD s 0 := by
  rw [padFreq]
  split
  · exact (getD_le_padOne fs s).trans (getD_le_padOne _ s)
  · exact getD_le_padOne fs s
  · exact Nat.le_refl _

theorem two_le_active_padFreq {fs : List Nat} (h : 2 ≤ fs.length) : 2 ≤ (activeFrom 0 (padFreq fs)).length := by
  rw [padFreq]
  split
  · next h0 => rw [length_active_padOne, length_active_padOne, length_padOne]; omega
  · next h1 => rw [length_active_padOne]; omega
  · next h0 h1 => exact (Nat.two_le_iff _).mpr ⟨h0, h1⟩

/-! ### The merge tree (R204, R205) -/

/-- How much of the code space the leaves of a tree take up: a half to the power of the depth for each. -/
def leafShare (ds : List (Nat × Nat)) : ℚ := (ds.map (fun p => (1 / 2 : ℚ) ^ p.2)).sum

/-- The symbols below the nodes of a queue. -/
abbrev leavesOf (q : List Node) : List Nat := q.flatMap (fun n => symbolsOf n.leaves)

/-- The leaves below each node of the queue fill that node's code space. -/
def FullNodes (q : List Node) : Prop := ∀ n ∈ q, leafShare n.leaves = 1

/-- A queue filled one insertion at a time holds what was inserted. -/
theorem foldl_insert_perm {α β : Type} {f : α → β} {ins : List β → α → List β}
    (hins : ∀ q x, (ins q x).Perm (f x :: q)) (xs : List α) (q : List β) :
    (xs.foldl ins q).Perm (xs.map f ++ q) := by
  induction xs generalizing q with
  | nil => exact .refl _
  | cons x xs ih => exact (ih (ins q x)).trans (((hins q x).append_left _).trans List.perm_middle)

theorem insertNode_perm (n : Node) (q : List Node) : (insertNode n q).Perm (n :: q) := by
  induction q with
  | nil => exact .refl _
  | cons m q ih =>
    rw [insertNode]
    split
    · exact .refl _
    · exact (ih.cons m).trans (.swap n m q)

theorem leafShare_mergeNodes (a b : Node) (next : Nat) :
    leafShare (mergeNodes a b next).leaves = (leafShare a.leaves + leafShare b.leaves) / 2 := by
  have hhalf : ∀ ps : List (Nat × Nat), leafShare (ps.map (fun p => (p.1, p.2 + 1))) = leafShare ps / 2 := by
    intro ps
    simp only [leafShare, List.map_map, Function.comp_def, pow_succ, List.sum_map_mul_right]
    ring
  rw [mergeNodes, hhalf, leafShare, List.map_append, List.sum_append]; rfl

theorem symbolsOf_mergeNodes (a b : Node) (next : Nat) :
    symbolsOf (mergeNodes a b next).leaves = symbolsOf a.leaves ++ symbolsOf b.leaves := by
  simp [mergeNodes, symbolsOf, Function.comp_def]

/-- The first two nodes give way to the node above them: no leaf is lost, and the new node is full. -/
theorem merge_step (a b : Node) (next : Nat) (q : List Node) (hfull : FullNodes (a :: b :: q)) :
    (leavesOf (insertNode (mergeNodes a b next) q)).Perm (leavesOf (a :: b :: q)) ∧
      FullNodes (insertNode (mergeNodes a b next) q) := by
  have hperm := insertNode_perm (mergeNodes a b next) q
  refine ⟨(hperm.flatMap_right _).trans ?_, fun n hn => ?_⟩
  · simp [symbolsOf_mergeNodes]
  · obtain rfl | hn := List.mem_cons.mp (hperm.mem_iff.mp hn)
    · rw [leafShare_mergeNodes, hfull a (by simp), hfull b (by simp)]; norm_num
    · exact hfull n (by simp [hn])

/-- With fuel for every merge the loop ends in one full tree over the leaves of the queue. -/
theorem mergeLoop_spec {fuel next : Nat} {q : List Node} (hq : q ≠ []) (hfuel : q.length ≤ fuel + 1)
    (hfull : FullNodes q) :
    (symbolsOf (mergeLoop fuel next q)).Perm (leavesOf q) ∧ leafShare (mergeLoop fuel next q) = 1 := by
  induction fuel generalizing next q with
  | zero =>
    obtain ⟨n, rfl⟩ := List.length_eq_one_iff.mp (Nat.le_antisymm hfuel (List.length_pos_iff.mpr hq))
    exact ⟨by simp [mergeLoop], hfull n (by simp)⟩
  | succ fuel ih =>
    match q with
    | [n] => exact ⟨by simp [mergeLoop], hfull n (by simp)⟩
    | a :: b :: q =>
      obtain ⟨hleaves, hfull'⟩ := merge_step a b next q hfull
      have hlen := (insertNode_perm (mergeNodes a b next) q).length_eq
      simp only [List.length_cons] at hlen hfuel
      obtain ⟨hsyms, hshare⟩ := ih (next := next + 1) (List.ne_nil_of_length_eq_add_one hlen) (by omega) hfull'
      exact ⟨hsyms.trans hleaves, hshare⟩

theorem leafNodes_spec (act : List (Nat × Nat)) :
    (leafNodes act).length = act.length ∧ (leavesOf (leafNodes act)).Perm (symbolsOf act) ∧
      FullNodes (leafNodes act) := by
  have hperm : (leafNodes act).Perm (act.map (fun p => ⟨p.2, p.1, [(p.1, 0)]⟩)) := by
    simpa [leafNodes] using
      foldl_insert_perm (fun q p => insertNode_perm { freq := p.2, idx := p.1, leaves := [(p.1, 0)] } q) act []
  refine ⟨by simpa using hperm.length_eq, (hperm.flatMap_right _).trans ?_, fun n hn => ?_⟩
  · simp [List.flatMap_map, symbolsOf, ← List.map_eq_flatMap]
  · obtain ⟨p, -, rfl⟩ := List.mem_map.mp (hperm.mem_iff.mp hn)
    simp [leafShare]

/-- `MERGE` and `DEPTHS` give every active symbol one depth, and the depths fill the code space (R204, R205). -/
theorem mergeDepths_spec {fs : List Nat} (h : 2 ≤ (activeFrom 0 fs).length) :
    (symbolsOf (mergeDepths fs)).Perm (symbolsOf (activeFrom 0 fs)) ∧ leafShare (mergeDepths fs) = 1 := by
  obtain ⟨hlen, hleaves, hfull⟩ := leafNodes_spec (activeFrom 0 fs)
  obtain ⟨hsyms, hshare⟩ := mergeLoop_spec (fuel := (activeFrom 0 fs).length) (next := fs.length)
    (List.ne_nil_of_length_pos (by omega)) (by omega) hfull
  exact ⟨hsyms.trans hleaves, hshare⟩

/-- Where there are two leaves no leaf is the root. -/
theorem one_le_depth {ds : List (Nat × Nat)} (hlen : 2 ≤ ds.length) (hshare : leafShare ds = 1) :
    ∀ p ∈ ds, 1 ≤ p.2 := by
  intro p hp
  rw [Nat.one_le_iff_ne_zero]
  intro hroot
  have hperm := List.perm_cons_erase hp
  have hrest : 0 < leafShare (ds.erase p) := by
    have hterm : ∀ x ∈ (ds.erase p).map (fun p => (1 / 2 : ℚ) ^ p.2), 0 < x :=
      List.forall_mem_map.mpr fun p _ => by positivity
    refine List.sum_pos _ hterm (List.ne_nil_of_length_pos ?_)
    rw [List.length_map, List.length_erase_of_mem hp]
    omega
  have hsum : leafShare ds = 1 + leafShare (ds.erase p) := by
    rw [leafShare, (hperm.map _).sum_eq, List.map_cons, List.sum_cons, hroot, pow_zero, leafShare]
  linarith

end Sys2Proof.Proofs


/-! PROOFS. The limit of `HUF.BUILD` (R206, R207): every repair pass takes 1 off the excess of the Kraft
sum and leaves the number of codes and, below the limit, a Kraft sum of at most `2 ^ l`. -/

namespace Sys2Proof.Proofs

open Machine

/-! ### Sums over a count list (R206) -/

/-- The sum of `w` over the lengths a count list stands for. -/
def countSum (w : Nat → Nat) (l : Nat) (bl : List Nat) : Nat := ∑ b ∈ Finset.range (l + 1), bl.getD b 0 * w b

/-- 1 for each code. -/
def codeTerm (b : Nat) : Nat := if b = 0 then 0 else 1

/-- What a length below the limit adds to the Kraft sum. -/
def innerTerm (l b : Nat) : Nat := if b = l then 0 else kraftTerm l b

theorem kraftTerm_of_pos {l b : Nat} (hb : 1 ≤ b) : kraftTerm l b = 2 ^ (l - b) := if_neg (Nat.ne_of_gt hb)

theorem codeTerm_of_pos {b : Nat} (hb : 1 ≤ b) : codeTerm b = 1 := if_neg (Nat.ne_of_gt hb)

theorem kraftCounts_eq (l : Nat) (bl : List Nat) : kraftCounts l bl = countSum (kraftTerm l) l bl := by
  have h : ∀ b, (if b = 0 then 0 else bl.getD b 0 * 2 ^ (l - b)) = bl.getD b 0 * kraftTerm l b := fun b => by
    rw [kraftTerm, mul_ite, mul_zero]
  simp only [kraftCounts, h]; rfl

/-- The codes at the limit add 1 each. -/
theorem countSum_kraft {l : Nat} (hl : 1 ≤ l) (bl : List Nat) :
    countSum (kraftTerm l) l bl = countSum (innerTerm l) l bl + bl.getD l 0 := by
  have hin : ∀ b ∈ Finset.range l, bl.getD b 0 * innerTerm l b = bl.getD b 0 * kraftTerm l b := fun b hb => by
    rw [innerTerm, if_neg (Nat.ne_of_lt (Finset.mem_range.mp hb))]
  rw [countSum, countSum, Finset.sum_range_succ, Finset.sum_range_succ, Finset.sum_congr rfl hin, innerTerm, if_pos rfl,
    kraftTerm_of_pos hl]
  simp

theorem getD_set_self {i : Nat} {bl : List Nat} (x : Nat) (hi : i < bl.length) : (bl.set i x).getD i 0 = x := by
  rw [List.getD_eq_getElem?_getD, List.getElem?_set_self hi, Option.getD_some]

theorem getD_set_ne {i j : Nat} {bl : List Nat} (x : Nat) (h : i ≠ j) : (bl.set i x).getD j 0 = bl.getD j 0 := by
  rw [List.getD_eq_getElem?_getD, List.getElem?_set_ne h, ← List.getD_eq_getElem?_getD]

theorem countSum_set {w : Nat → Nat} {l i : Nat} {bl : List Nat} (x : Nat) (hi : i ≤ l) (hlen : bl.length = l + 1) :
    countSum w l (bl.set i x) + bl.getD i 0 * w i = countSum w l bl + x * w i := by
  have hmem : i ∈ Finset.range (l + 1) := Finset.mem_range.mpr (by omega)
  have hoff : ∀ b ∈ (Finset.range (l + 1)).erase i, (bl.set i x).getD b 0 * w b = bl.getD b 0 * w b := fun b hb => by
    rw [getD_set_ne x (Finset.ne_of_mem_erase hb).symm]
  rw [countSum, countSum, ← Finset.sum_erase_add _ _ hmem, ← Finset.sum_erase_add _ _ hmem, Finset.sum_congr rfl hoff,
    getD_set_self x (by omega)]
  omega

theorem countSum_more {w : Nat → Nat} {l i : Nat} {bl : List Nat} (k : Nat) (hi : i ≤ l) (hlen : bl.length = l + 1) :
    countSum w l (bl.set i (bl.getD i 0 + k)) = countSum w l bl + k * w i := by
  have h := countSum_set (w := w) (bl.getD i 0 + k) hi hlen
  rw [Nat.add_mul] at h
  omega

theorem countSum_less {w : Nat → Nat} {l i : Nat} {bl : List Nat} (hused : 1 ≤ bl.getD i 0) (hi : i ≤ l)
    (hlen : bl.length = l + 1) : countSum w l (bl.set i (bl.getD i 0 - 1)) + w i = countSum w l bl := by
  have h := countSum_set (w := w) (bl.getD i 0 - 1) hi hlen
  obtain ⟨c, hc⟩ := Nat.exists_eq_add_of_le' hused
  rw [hc, Nat.add_sub_cancel, Nat.add_mul] at h
  rw [hc, Nat.add_sub_cancel]
  omega

/-! ### One repair pass (R206) -/

/-- The length a pass takes a code from is in use. -/
theorem largestUsed_spec {bl : List Nat} {b k : Nat} (hb : 1 ≤ b) (hk : b ≤ k) (hused : 1 ≤ bl.getD b 0) :
    1 ≤ largestUsed bl k ∧ largestUsed bl k ≤ k ∧ 1 ≤ bl.getD (largestUsed bl k) 0 := by
  induction k with
  | zero => omega
  | succ k ih =>
    rw [largestUsed]
    split
    · next hz =>
      have hne : b ≠ k + 1 := fun h => by rw [h] at hused; omega
      obtain ⟨h1, h2, h3⟩ := ih (by omega)
      exact ⟨h1, by omega, h3⟩
    · next hz => exact ⟨by omega, Nat.le_refl _, Nat.one_le_iff_ne_zero.mpr hz⟩

/-- A count list of `n` codes whose lengths below the limit do not by themselves exceed the code space. -/
structure Limitable (l n : Nat) (bl : List Nat) : Prop where
  length : bl.length = l + 1
  codes : countSum codeTerm l bl = n
  inner : countSum (innerTerm l) l bl ≤ 2 ^ l

/-- With no more codes than the limit has room for, an excess comes from a shorter code. -/
theorem exists_used_of_excess {l n : Nat} {bl : List Nat} (h : Limitable l n bl) (hn : n ≤ 2 ^ l)
    (hexc : 2 ^ l < countSum (kraftTerm l) l bl) : ∃ b, 1 ≤ b ∧ b ≤ l - 1 ∧ 1 ≤ bl.getD b 0 := by
  by_contra hnone
  push Not at hnone
  have heq : countSum (kraftTerm l) l bl = countSum codeTerm l bl := by
    refine Finset.sum_congr rfl fun b hb => ?_
    have hbl := Finset.mem_range.mp hb
    rcases Nat.eq_zero_or_pos b with rfl | hpos
    · rfl
    · rcases Nat.lt_or_ge (l - 1) b with hlt | hle
      · have hb : b = l := by omega
        rw [kraftTerm_of_pos hpos, codeTerm_of_pos hpos, hb, Nat.sub_self, Nat.pow_zero]
      · rw [Nat.lt_one_iff.mp (hnone b hpos hle), Nat.zero_mul, Nat.zero_mul]
  rw [heq, h.codes] at hexc
  omega

/-- A pass moves one code of length `b` and one of the limit to two codes of length `b + 1`. -/
theorem limitPass_countSum {l b : Nat} {bl : List Nat} (hb : largestUsed bl (l - 1) = b) (hlen : bl.length = l + 1)
    (hlt : b < l) (hused : 1 ≤ bl.getD b 0) (hlast : 1 ≤ bl.getD l 0) :
    (limitPass l bl).length = l + 1 ∧
      ∀ w, countSum w l (limitPass l bl) + w l + w b = countSum w l bl + 2 * w (b + 1) := by
  rw [limitPass, hb]
  have hlen₁ : (bl.set b (bl.getD b 0 - 1)).length = l + 1 := by rw [List.length_set, hlen]
  have hlast₁ : 1 ≤ (bl.set b (bl.getD b 0 - 1)).getD l 0 := by rwa [getD_set_ne _ (Nat.ne_of_lt hlt)]
  have hsum₁ : ∀ w, _ := fun w => countSum_less (w := w) hused (Nat.le_of_lt hlt) hlen
  generalize bl.set b (bl.getD b 0 - 1) = bl₁ at hlen₁ hlast₁ hsum₁ ⊢
  have hlen₂ : (bl₁.set (b + 1) (bl₁.getD (b + 1) 0 + 2)).length = l + 1 := by rw [List.length_set, hlen₁]
  have hlast₂ : 1 ≤ (bl₁.set (b + 1) (bl₁.getD (b + 1) 0 + 2)).getD l 0 := by
    by_cases hnext : b + 1 = l
    · rw [hnext, getD_set_self _ (by omega)]; omega
    · rwa [getD_set_ne _ hnext]
  have hsum₂ : ∀ w, _ := fun w => countSum_more (w := w) 2 (by omega : b + 1 ≤ l) hlen₁
  generalize bl₁.set (b + 1) (bl₁.getD (b + 1) 0 + 2) = bl₂ at hlen₂ hlast₂ hsum₂ ⊢
  refine ⟨by rw [List.length_set, hlen₂], fun w => ?_⟩
  rw [countSum_less hlast₂ (Nat.le_refl l) hlen₂, hsum₂, ← hsum₁]
  omega

/-- While the Kraft sum is over `2 ^ l`, a pass finds both codes it takes. -/
theorem codes_of_excess {l n : Nat} {bl : List Nat} (h : Limitable l n bl) (hn : n ≤ 2 ^ l)
    (hexc : 2 ^ l < countSum (kraftTerm l) l bl) :
    ∃ b, largestUsed bl (l - 1) = b ∧ 1 ≤ b ∧ b < l ∧ 1 ≤ bl.getD b 0 ∧ 1 ≤ bl.getD l 0 := by
  obtain ⟨b₀, hb₀, hle₀, hused₀⟩ := exists_used_of_excess h hn hexc
  obtain ⟨hb, hle, hused⟩ := largestUsed_spec hb₀ hle₀ hused₀
  have hin := h.inner
  rw [countSum_kraft (by omega)] at hexc
  exact ⟨_, rfl, hb, by omega, hused, by omega⟩

theorem limitPass_spec {l n : Nat} {bl : List Nat} (h : Limitable l n bl) (hn : n ≤ 2 ^ l)
    (hexc : 2 ^ l < countSum (kraftTerm l) l bl) :
    Limitable l n (limitPass l bl) ∧
      countSum (kraftTerm l) l (limitPass l bl) + 1 = countSum (kraftTerm l) l bl := by
  obtain ⟨b, hbl, hb, hlt, hused, hlast⟩ := codes_of_excess h hn hexc
  obtain ⟨hlen, hsum⟩ := limitPass_countSum hbl h.length hlt hused hlast
  have hhalf : kraftTerm l b = 2 * kraftTerm l (b + 1) := by
    rw [kraftTerm_of_pos hb, kraftTerm_of_pos (Nat.le_add_left 1 b), ← Nat.pow_succ']
    congr 1; omega
  have hbb : innerTerm l b = kraftTerm l b := if_neg (Nat.ne_of_lt hlt)
  have hnext : innerTerm l (b + 1) ≤ kraftTerm l (b + 1) := by rw [innerTerm]; split <;> omega
  have hcodes := hsum codeTerm
  have hinner := hsum (innerTerm l)
  have hkraft := hsum (kraftTerm l)
  have hold := h.inner
  rw [kraftTerm_of_pos (by omega : 1 ≤ l), Nat.sub_self, Nat.pow_zero] at hkraft
  rw [h.codes, codeTerm_of_pos hb, codeTerm_of_pos (by omega : 1 ≤ l), codeTerm_of_pos (by omega : 1 ≤ b + 1)] at hcodes
  exact ⟨⟨hlen, by omega, by omega⟩, by omega⟩

/-- The repair ends with the Kraft sum at `2 ^ l` (R206). -/
theorem limitPasses_spec {l n excess : Nat} {bl : List Nat} (h : Limitable l n bl) (hn : n ≤ 2 ^ l)
    (hexc : countSum (kraftTerm l) l bl = 2 ^ l + excess) :
    Limitable l n (limitPasses l excess bl) ∧ countSum (kraftTerm l) l (limitPasses l excess bl) = 2 ^ l := by
  induction excess generalizing bl with
  | zero => exact ⟨h, hexc⟩
  | succ excess ih =>
    obtain ⟨h', hless⟩ := limitPass_spec h hn (by omega)
    exact ih h' (by omega)

/-! ### The counts of clipped depths, and the lengths of counts (R206, R207) -/

theorem clippedCounts_getD {l b : Nat} (depths : List Nat) (hb : b ≤ l) :
    (clippedCounts l depths).getD b 0 = depths.countP (fun d => d != 0 && min d l == b) := by
  have hb' : b < (clippedCounts l depths).length := by simp [clippedCounts]; omega
  rw [List.getD_eq_getElem _ _ hb']
  simp [clippedCounts]

theorem countSum_clippedCounts {w : Nat → Nat} (hw : w 0 = 0) (l : Nat) (depths : List Nat) :
    countSum w l (clippedCounts l depths) = (depths.map (fun d => w (min d l))).sum := by
  have hget : countSum w l (clippedCounts l depths) =
      ∑ b ∈ Finset.range (l + 1), depths.countP (fun d => d != 0 && min d l == b) * w b :=
    Finset.sum_congr rfl fun b hb => by rw [clippedCounts_getD depths (Nat.le_of_lt_succ (Finset.mem_range.mp hb))]
  rw [hget]
  clear hget
  induction depths with
  | nil => simp
  | cons d ds ih =>
    have hone : ∑ b ∈ Finset.range (l + 1), (if (d != 0 && min d l == b) = true then 1 else 0) * w b = w (min d l) := by
      rw [Finset.sum_eq_single (min d l)]
      · by_cases hd : d = 0 <;> simp [hd, hw]
      · intro b _ hb
        simp [hb.symm]
      · intro h
        simp at h
    simp only [List.countP_cons, Nat.add_mul, Finset.sum_add_distrib, hone, List.map_cons, List.sum_cons]
    rw [ih, Nat.add_comm]

theorem sum_lengthsInOrder {w : Nat → Nat} (hw : w 0 = 0) (l : Nat) (bl : List Nat) :
    ((lengthsInOrder l bl).map w).sum = countSum w l bl := by
  have hrep : ∀ b, ((if b = 0 then [] else List.replicate (bl.getD b 0) b).map w).sum = bl.getD b 0 * w b := fun b => by
    split
    · next h => rw [h, hw]; rfl
    · rw [List.map_replicate, List.sum_replicate, smul_eq_mul]
  rw [lengthsInOrder, List.flatMap_def, List.map_flatten, List.sum_flatten, List.map_map, List.map_map]
  exact congrArg List.sum (List.map_congr_left fun b _ => hrep b)

theorem mem_lengthsInOrder {l n : Nat} {bl : List Nat} (h : n ∈ lengthsInOrder l bl) : 1 ≤ n ∧ n ≤ l := by
  obtain ⟨b, hb, hn⟩ := List.mem_flatMap.mp h
  split at hn
  · cases hn
  · obtain rfl := List.eq_of_mem_replicate hn
    have := List.mem_range.mp hb
    omega

end Sys2Proof.Proofs


/-! PROOFS. The lengths of `HUF.BUILD` (O7): as the depths give them, or as the limit does. -/

namespace Sys2Proof.Proofs

open Machine

/-! ### The table of a list of symbols with their depths or lengths -/

/-- The table of `n` symbols that a list of symbols with their depths or lengths gives. -/
abbrev tableOf (n : Nat) (ds : List (Nat × Nat)) : List Nat := (List.range n).map (depthOf ds)

theorem depthOf_cons (p : Nat × Nat) (ds : List (Nat × Nat)) (s : Nat) :
    depthOf (p :: ds) s = if p.1 = s then p.2 else depthOf ds s := by
  by_cases h : p.1 = s <;> simp [depthOf, h]

theorem depthOf_of_notMem {ds : List (Nat × Nat)} {s : Nat} (h : s ∉ symbolsOf ds) : depthOf ds s = 0 := by
  induction ds with
  | nil => rfl
  | cons p ds ih =>
    obtain ⟨hp, hds⟩ := not_or.mp (List.mem_cons.not.mp h)
    rw [depthOf_cons, if_neg (Ne.symm hp), ih hds]

theorem exists_depthOf {ds : List (Nat × Nat)} {s : Nat} (h : s ∈ symbolsOf ds) : ∃ p ∈ ds, depthOf ds s = p.2 := by
  induction ds with
  | nil => cases h
  | cons p ds ih =>
    rw [depthOf_cons]
    split
    · exact ⟨p, List.mem_cons_self, rfl⟩
    · next hne =>
      obtain ⟨p', hp', hd⟩ := ih ((List.mem_cons.mp h).resolve_left (Ne.symm hne))
      exact ⟨p', List.mem_cons_of_mem p hp', hd⟩

theorem depthOf_of_mem {ds : List (Nat × Nat)} (hnd : (symbolsOf ds).Nodup) : ∀ p ∈ ds, depthOf ds p.1 = p.2 := by
  induction ds with
  | nil => exact nofun
  | cons q ds ih =>
    obtain ⟨hq, hnd⟩ := List.nodup_cons.mp hnd
    intro p hp
    rw [depthOf_cons]
    obtain rfl | hp := List.mem_cons.mp hp
    · exact if_pos rfl
    · have hne : q.1 ≠ p.1 := fun h => hq (h ▸ List.mem_map_of_mem hp)
      rw [if_neg hne, ih hnd p hp]

/-- A sum over the table to which a symbol without a code adds nothing is the sum over the list. -/
theorem sum_tableOf {g : Nat → Nat} (hg : g 0 = 0) {n : Nat} {ds : List (Nat × Nat)} (hnd : (symbolsOf ds).Nodup)
    (hlt : ∀ s ∈ symbolsOf ds, s < n) : ((tableOf n ds).map g).sum = (ds.map (fun p => g p.2)).sum := by
  induction ds with
  | nil =>
    have hz : ∀ s ∈ List.range n, (g ∘ depthOf []) s = 0 := fun _ _ => hg
    rw [List.map_map, List.map_congr_left hz]; simp
  | cons p ds ih =>
    obtain ⟨hp, hnd⟩ := List.nodup_cons.mp hnd
    obtain ⟨hpn, hlt⟩ := List.forall_mem_cons.mp hlt
    have hsplit : ∀ s ∈ List.range n,
        (g ∘ depthOf (p :: ds)) s = (if p.1 = s then g p.2 else 0) + (g ∘ depthOf ds) s := by
      intro s _
      rw [Function.comp, Function.comp, depthOf_cons]
      split
      · next h => rw [← h, depthOf_of_notMem hp, hg, Nat.add_zero]
      · rw [Nat.zero_add]
    have hone : ((List.range n).map (fun s => if p.1 = s then g p.2 else 0)).sum = g p.2 := by
      change ∑ s ∈ Finset.range n, _ = _
      rw [Finset.sum_ite_eq, if_pos (Finset.mem_range.mpr hpn)]
    rw [List.map_map, List.map_congr_left hsplit, List.sum_map_add, hone, ← List.map_map, ih hnd hlt, List.map_cons,
      List.sum_cons]

/-- The symbols `syms` have lengths from 1 to `l`, each one, with Kraft sum `2 ^ l`. -/
structure CompleteLengths (l : Nat) (syms : List Nat) (ds : List (Nat × Nat)) : Prop where
  symbols : (symbolsOf ds).Perm syms
  bounds : ∀ p ∈ ds, 1 ≤ p.2 ∧ p.2 ≤ l
  complete : (ds.map (fun p => kraftTerm l p.2)).sum = 2 ^ l

/-! ### Depths in the code space (R205, R206) -/

theorem two_pow_sub_eq {l d : Nat} (h : d ≤ l) : ((2 ^ (l - d) : Nat) : ℚ) = 2 ^ l * (1 / 2) ^ d := by
  rw [Nat.cast_pow, Nat.cast_ofNat, pow_sub₀ _ two_ne_zero h, one_div, inv_pow]

theorem sum_le_of_le_share {l : Nat} {f : Nat → Nat} {ds : List (Nat × Nat)} (hshare : leafShare ds = 1)
    (h : ∀ p ∈ ds, (f p.2 : ℚ) ≤ 2 ^ l * (1 / 2) ^ p.2) : (ds.map (fun p => f p.2)).sum ≤ 2 ^ l := by
  have hsum := List.sum_le_sum h
  rw [List.sum_map_mul_left, ← leafShare, hshare, mul_one] at hsum
  have hcast : (((ds.map (fun p => f p.2)).sum : Nat) : ℚ) ≤ ((2 ^ l : Nat) : ℚ) := by
    simpa [Nat.cast_list_sum, Function.comp_def] using hsum
  exact_mod_cast hcast

theorem le_sum_of_share_le {l : Nat} {f : Nat → Nat} {ds : List (Nat × Nat)} (hshare : leafShare ds = 1)
    (h : ∀ p ∈ ds, 2 ^ l * (1 / 2) ^ p.2 ≤ (f p.2 : ℚ)) : 2 ^ l ≤ (ds.map (fun p => f p.2)).sum := by
  have hsum := List.sum_le_sum h
  rw [List.sum_map_mul_left, ← leafShare, hshare, mul_one] at hsum
  have hcast : ((2 ^ l : Nat) : ℚ) ≤ (((ds.map (fun p => f p.2)).sum : Nat) : ℚ) := by
    simpa [Nat.cast_list_sum, Function.comp_def] using hsum
  exact_mod_cast hcast

theorem kraftTerm_eq_share {l d : Nat} (hd : 1 ≤ d) (hl : d ≤ l) : (kraftTerm l d : ℚ) = 2 ^ l * (1 / 2) ^ d := by
  rw [kraftTerm_of_pos hd, two_pow_sub_eq hl]

/-- A depth below the limit takes up its share, and a clipped one is not counted. -/
theorem innerTerm_min_le_share {l d : Nat} (hd : 1 ≤ d) : (innerTerm l (min d l) : ℚ) ≤ 2 ^ l * (1 / 2) ^ d := by
  rw [innerTerm]
  split
  · rw [Nat.cast_zero]; positivity
  · next h =>
    have hdl : d ≤ l := by omega
    rw [Nat.min_eq_left hdl, kraftTerm_eq_share hd hdl]

/-- A clipped depth takes up at least its share. -/
theorem share_le_kraftTerm_min {l d : Nat} (hl : 1 ≤ l) (hd : 1 ≤ d) :
    2 ^ l * (1 / 2) ^ d ≤ (kraftTerm l (min d l) : ℚ) := by
  rcases Nat.le_total d l with hdl | hdl
  · rw [Nat.min_eq_left hdl, kraftTerm_eq_share hd hdl]
  · rw [Nat.min_eq_right hdl, kraftTerm_eq_share hl (Nat.le_refl l)]
    exact mul_le_mul_of_nonneg_left (pow_le_pow_of_le_one (by norm_num) (by norm_num) hdl) (by positivity)

/-- Depths within the limit are complete lengths. -/
theorem completeLengths_of_depths {l : Nat} {syms : List Nat} {ds : List (Nat × Nat)} (hsyms : (symbolsOf ds).Perm syms)
    (hshare : leafShare ds = 1) (hpos : ∀ p ∈ ds, 1 ≤ p.2) (hle : ∀ p ∈ ds, p.2 ≤ l) :
    CompleteLengths l syms ds where
  symbols := hsyms
  bounds := fun p hp => ⟨hpos p hp, hle p hp⟩
  complete := Nat.le_antisymm
    (sum_le_of_le_share hshare fun p hp => (kraftTerm_eq_share (hpos p hp) (hle p hp)).le)
    (le_sum_of_share_le hshare fun p hp => (kraftTerm_eq_share (hpos p hp) (hle p hp)).ge)

/-- What the repair of R206 starts from. -/
theorem clippedCounts_spec {l n : Nat} {ds : List (Nat × Nat)} (hl : 1 ≤ l) (hnd : (symbolsOf ds).Nodup)
    (hlt : ∀ s ∈ symbolsOf ds, s < n) (hshare : leafShare ds = 1) (hpos : ∀ p ∈ ds, 1 ≤ p.2) :
    Limitable l ds.length (clippedCounts l (tableOf n ds)) ∧
      2 ^ l ≤ countSum (kraftTerm l) l (clippedCounts l (tableOf n ds)) := by
  have hsum : ∀ w : Nat → Nat, w 0 = 0 →
      countSum w l (clippedCounts l (tableOf n ds)) = (ds.map (fun p => w (min p.2 l))).sum := fun w hw => by
    rw [countSum_clippedCounts hw, sum_tableOf (g := fun d => w (min d l)) (by rw [Nat.zero_min, hw]) hnd hlt]
  have hinner0 : innerTerm l 0 = 0 := by rw [innerTerm, kraftTerm, if_pos rfl, ite_self]
  refine ⟨⟨by simp [clippedCounts], ?_, ?_⟩, ?_⟩
  · have hone : ∀ p ∈ ds, codeTerm (min p.2 l) = 1 := fun p hp => codeTerm_of_pos (Nat.le_min.mpr ⟨hpos p hp, hl⟩)
    rw [hsum codeTerm rfl, List.map_congr_left hone]
    simp
  · rw [hsum _ hinner0]
    exact sum_le_of_le_share (f := fun d => innerTerm l (min d l)) hshare fun p hp => innerTerm_min_le_share (hpos p hp)
  · rw [hsum _ rfl]
    exact le_sum_of_share_le (f := fun d => kraftTerm l (min d l)) hshare fun p hp => share_le_kraftTerm_min hl (hpos p hp)

/-! ### `LIMIT` and `HUF.BUILD` (R202, R207) -/

theorem insertByFreq_perm (p : Nat × Nat) (q : List (Nat × Nat)) : (insertByFreq p q).Perm (p :: q) := by
  induction q with
  | nil => exact .refl _
  | cons m q ih =>
    rw [insertByFreq]
    split
    · exact .refl _
    · exact (ih.cons m).trans (.swap p m q)

theorem length_lengthsInOrder (l : Nat) (bl : List Nat) : (lengthsInOrder l bl).length = countSum codeTerm l bl := by
  have hone : ∀ n ∈ lengthsInOrder l bl, codeTerm n = 1 := fun n hn => codeTerm_of_pos (mem_lengthsInOrder hn).1
  rw [← sum_lengthsInOrder (w := codeTerm) rfl, List.map_congr_left hone]
  simp

/-- The repaired lengths, given out by frequency, are complete. -/
theorem limitLengths_complete {l n : Nat} {act ds : List (Nat × Nat)} (hl : 1 ≤ l) (hact : act.length ≤ 2 ^ l)
    (hnd : (symbolsOf ds).Nodup) (hlt : ∀ s ∈ symbolsOf ds, s < n) (hsyms : (symbolsOf ds).Perm (symbolsOf act))
    (hshare : leafShare ds = 1) (hpos : ∀ p ∈ ds, 1 ≤ p.2) :
    CompleteLengths l (symbolsOf act) (limitLengths l act (tableOf n ds)) := by
  have hn : ds.length = act.length := by simpa using hsyms.length_eq
  obtain ⟨hlim, hover⟩ := clippedCounts_spec hl hnd hlt hshare hpos
  obtain ⟨hlim', hkraft⟩ := limitPasses_spec hlim (hn ▸ hact) (Nat.add_sub_cancel' hover).symm
  have horder : (act.foldl (fun q p => insertByFreq p q) []).Perm act := by
    simpa using foldl_insert_perm (fun q p => insertByFreq_perm p q) act []
  rw [limitLengths, kraftCounts_eq]
  generalize limitPasses l _ _ = bl at hlim' hkraft ⊢
  generalize act.foldl _ _ = order at horder ⊢
  have hlen : (symbolsOf order).length = (lengthsInOrder l bl).length := by
    rw [length_lengthsInOrder, hlim'.codes, hn, List.length_map, horder.length_eq]
  refine ⟨?_, fun p hp => mem_lengthsInOrder (List.of_mem_zip hp).2, ?_⟩
  · rw [symbolsOf, List.map_fst_zip hlen.le]
    exact horder.map _
  · change (List.map (kraftTerm l ∘ Prod.snd) _).sum = _
    rw [← List.map_map, List.map_snd_zip hlen.ge, sum_lengthsInOrder rfl, hkraft]

theorem nodup_and_lt_of_active {freq : List Nat} {ds : List (Nat × Nat)}
    (h : (symbolsOf ds).Perm (symbolsOf (activeFrom 0 (padFreq freq)))) :
    (symbolsOf ds).Nodup ∧ ∀ s ∈ symbolsOf ds, s < freq.length :=
  ⟨h.nodup_iff.mpr (nodup_active _), fun _ hs => length_padFreq freq ▸ lt_of_mem_active (h.mem_iff.mp hs)⟩

/-- The lengths of `HUF.BUILD` are the table of complete lengths of the active symbols. -/
theorem buildLengths_spec {freq : List Nat} {l : Nat} (h2 : 2 ≤ freq.length) (hl : freq.length ≤ 2 ^ l) :
    ∃ ds, buildLengths freq l = tableOf freq.length ds ∧
      CompleteLengths l (symbolsOf (activeFrom 0 (padFreq freq))) ds := by
  have hact := two_le_active_padFreq h2
  obtain ⟨hsyms, hshare⟩ := mergeDepths_spec hact
  have hlen := hsyms.length_eq
  simp only [List.length_map] at hlen
  have hpos := one_le_depth (hlen ▸ hact) hshare
  obtain ⟨hnd, hlt⟩ := nodup_and_lt_of_active hsyms
  rw [buildLengths]
  split
  · next hmax =>
    refine ⟨_, rfl, completeLengths_of_depths hsyms hshare hpos fun p hp => ?_⟩
    rw [← depthOf_of_mem hnd p hp]
    have hmem := List.mem_map_of_mem (f := depthOf (mergeDepths (padFreq freq)))
      (List.mem_range.mpr (hlt _ (List.mem_map_of_mem hp)))
    exact ((le_foldl_max _ 0).2 _ hmem).trans hmax
  · have hl1 : 1 ≤ l := Nat.one_le_iff_ne_zero.mpr fun h => by rw [h] at hl; omega
    have hact' := (length_active_le 0 (padFreq freq)).trans (length_padFreq freq ▸ hl)
    exact ⟨_, rfl, limitLengths_complete hl1 hact' hnd hlt hsyms hshare hpos⟩

/-- Settles O7: the merge tree fills the code space, the limit's passes end with its Kraft sum at `2 ^ l`, and either way
each active symbol has one length. -/
theorem builtTreesAreComplete : Obligations.BuiltTreesAreComplete := by
  intro freq l h2 hl
  obtain ⟨ds, hbuild, hds⟩ := buildLengths_spec h2 hl
  obtain ⟨hnd, hlt⟩ := nodup_and_lt_of_active hds.symbols
  rw [hbuild]
  refine ⟨by simp, fun n hn => ?_, fun s hs => ?_, ?_⟩
  · obtain ⟨s, -, rfl⟩ := List.mem_map.mp hn
    by_cases hs : s ∈ symbolsOf ds
    · obtain ⟨p, hp, hd⟩ := exists_depthOf hs
      exact hd ▸ (hds.bounds p hp).2
    · exact depthOf_of_notMem hs ▸ Nat.zero_le l
  · have hmem : s ∈ symbolsOf ds := hds.symbols.mem_iff.mpr (mem_active.mpr (hs.trans_le (getD_le_padFreq freq s)))
    obtain ⟨p, hp, hd⟩ := exists_depthOf hmem
    have hget : (tableOf freq.length ds).getD s 0 = depthOf ds s := by simp [hlt s hmem]
    rw [hget, hd]
    exact (hds.bounds p hp).1
  · rw [kraft_eq_sum, sum_tableOf rfl hnd hlt, hds.complete]

end Sys2Proof.Proofs


/-! PROOFS. The items of `CL.RLE` expand back to the lengths they code (O8): run by run, and in a run item by item. -/

namespace Sys2Proof.Proofs

open Machine Safety Laws

/-! ### What an item stands for (R108, R249) -/

/-- The lengths after one item more (R108). -/
def expandItem (acc : List Nat) (it : RleItem) : List Nat :=
  if it.sym ≤ 15 then acc ++ [it.sym]
  else if it.sym = 16 then acc ++ List.replicate (3 + it.extra) (acc.getLast?.getD 0)
  else if it.sym = 17 then acc ++ List.replicate (3 + it.extra) 0
  else acc ++ List.replicate (11 + it.extra) 0

/-- After the lengths `acc` the items stand for the lengths `ns`, and their values fit their extra bits. -/
structure RleCodes (items : List RleItem) (acc ns : List Nat) : Prop where
  expand : items.foldl expandItem acc = acc ++ ns
  fits : ∀ it ∈ items, it.bits = clExtra it.sym ∧ it.extra < 2 ^ it.bits

theorem rleCodes_nil (acc : List Nat) : RleCodes [] acc [] := ⟨(List.append_nil acc).symm, nofun⟩

theorem RleCodes.append {is js : List RleItem} {acc ns ms : List Nat} (h : RleCodes is acc ns)
    (k : RleCodes js (acc ++ ns) ms) : RleCodes (is ++ js) acc (ns ++ ms) where
  expand := by rw [List.foldl_append, h.expand, k.expand, List.append_assoc]
  fits it hit := (List.mem_append.mp hit).elim (h.fits it) (k.fits it)

theorem rleCodes_one {it : RleItem} {acc ns : List Nat} (he : expandItem acc it = acc ++ ns)
    (hb : it.bits = clExtra it.sym) (hx : it.extra < 2 ^ it.bits) : RleCodes [it] acc ns :=
  ⟨he, fun _ h => List.mem_singleton.mp h ▸ ⟨hb, hx⟩⟩

/-- A length stands for itself. -/
theorem rleCodes_length {v : Nat} (hv : v ≤ 15) (acc : List Nat) : RleCodes [⟨v, 0, 0⟩] acc [v] := by
  refine rleCodes_one (if_pos hv) ?_ Nat.one_pos
  have h16 : v ≠ 16 := by omega
  have h17 : v ≠ 17 := by omega
  have h18 : v ≠ 18 := by omega
  simp only [clExtra, if_neg h16, if_neg h17, if_neg h18]

theorem rleCodes_lengths {v : Nat} (hv : v ≤ 15) (run : Nat) (acc : List Nat) :
    RleCodes (List.replicate run ⟨v, 0, 0⟩) acc (List.replicate run v) := by
  induction run generalizing acc with
  | zero => exact rleCodes_nil acc
  | succ run ih => exact (rleCodes_length hv acc).append (ih _)

/-! ### The items of one run (R249) -/

theorem replicate_sub {n run : Nat} (h : n ≤ run) (v : Nat) :
    List.replicate run v = List.replicate n v ++ List.replicate (run - n) v := by
  rw [List.replicate_append_replicate, Nat.add_sub_cancel' h]

theorem rleCodes_rleZeros (fuel run : Nat) (acc : List Nat) :
    RleCodes (rleZeros fuel run) acc (List.replicate run 0) := by
  induction fuel generalizing run acc with
  | zero => exact rleCodes_lengths (Nat.zero_le 15) run acc
  | succ fuel ih =>
    rw [rleZeros]
    split
    · next h11 =>
      rw [replicate_sub (Nat.min_le_left run 138) 0]
      refine (rleCodes_one ?_ rfl ?_).append (ih (run - min run 138) _)
      · show acc ++ List.replicate (11 + (min run 138 - 11)) 0 = _
        rw [Nat.add_sub_cancel' (by omega)]
      · show min run 138 - 11 < 2 ^ 7
        omega
    · split
      · next h11 h3 =>
        refine rleCodes_one ?_ rfl ?_
        · show acc ++ List.replicate (3 + (run - 3)) 0 = _
          rw [Nat.add_sub_cancel' h3]
        · show run - 3 < 2 ^ 3
          omega
      · exact rleCodes_lengths (Nat.zero_le 15) run acc

/-- Copies of the last length stand for it as often as the run goes on. -/
theorem rleCodes_rleCopies {v : Nat} (hv : v ≤ 15) (fuel run : Nat) {acc : List Nat} (hlast : acc.getLast? = some v) :
    RleCodes (rleCopies v fuel run) acc (List.replicate run v) := by
  induction fuel generalizing run acc with
  | zero => exact rleCodes_lengths hv run acc
  | succ fuel ih =>
    rw [rleCopies]
    split
    · next h3 =>
      rw [replicate_sub (Nat.min_le_left run 6) v]
      refine (rleCodes_one ?_ rfl ?_).append (ih (run - min run 6) ?_)
      · show acc ++ List.replicate (3 + (min run 6 - 3)) (acc.getLast?.getD 0) = _
        rw [hlast, Nat.add_sub_cancel' (by omega)]; rfl
      · show min run 6 - 3 < 2 ^ 2
        omega
      · rw [List.getLast?_append, List.getLast?_replicate, if_neg (by omega)]; rfl
    · exact rleCodes_lengths hv run acc

theorem rleCodes_rleRun {v run : Nat} (hv : v ≤ 15) (hrun : 1 ≤ run) (acc : List Nat) :
    RleCodes (rleRun v run) acc (List.replicate run v) := by
  rw [rleRun]
  split
  · next h0 => exact h0 ▸ rleCodes_rleZeros run run acc
  · rw [replicate_sub hrun v]
    exact (rleCodes_length hv acc).append (rleCodes_rleCopies hv run (run - 1) List.getLast?_concat)

/-! ### The items of a sequence (R249) -/

theorem replicate_runLength_append_drop (v : Nat) (qs : List Nat) :
    List.replicate (runLength v qs) v ++ qs.drop (runLength v qs) = qs := by
  induction qs with
  | nil => rfl
  | cons q qs ih =>
    rw [runLength]
    split
    · next h => rw [List.replicate_succ, List.drop_succ_cons, List.cons_append, ih, h]
    · rfl

theorem runLength_cons_self (q : Nat) (qs : List Nat) : runLength q (q :: qs) = runLength q qs + 1 := if_pos rfl

theorem rleCodes_rleLoop {fuel : Nat} {qs : List Nat} (hq : ∀ n ∈ qs, n ≤ 15) (hf : qs.length ≤ fuel)
    (acc : List Nat) : RleCodes (rleLoop fuel qs) acc qs := by
  induction fuel generalizing qs acc with
  | zero =>
    obtain rfl := List.length_eq_zero_iff.mp (Nat.le_zero.mp hf)
    exact rleCodes_nil acc
  | succ fuel ih =>
    cases qs with
    | nil => exact rleCodes_nil acc
    | cons q qs =>
      have hrun : 1 ≤ runLength q (q :: qs) := by rw [runLength_cons_self]; omega
      have hrest := ih (qs := (q :: qs).drop (runLength q (q :: qs)))
        (fun n hn => hq n (List.mem_of_mem_drop hn))
        (by rw [List.length_drop]; simp only [List.length_cons] at hf ⊢; omega)
        (acc ++ List.replicate (runLength q (q :: qs)) q)
      have h := (rleCodes_rleRun (hq q List.mem_cons_self) hrun acc).append hrest
      rwa [replicate_runLength_append_drop] at h

/-- Settles O8: the items of each run stand for it, whatever lengths come before. -/
theorem runLengthsExpandBack : Obligations.RunLengthsExpandBack := fun q hq => by
  obtain ⟨hexpand, hfits⟩ := rleCodes_rleLoop hq (Nat.le_refl q.length) []
  exact ⟨hexpand, hfits⟩

end Sys2Proof.Proofs


/-! PROOFS. The bodies and symbols of a DEFLATE block being read: literal/length symbols (O35), stored bodies (O33). -/

namespace Sys2Proof.Proofs

open Machine Safety Laws

/-! ### The end of a block (R255, R267) -/

theorem trailerWant_eq (c : Codec) :
    trailerWant c = if c = .zlib then .zlibTrl else if c = .gzip then .gzipTrl else .trailing := by
  cases c <;> rfl

theorem alignIn_eq (u : Unpacker) :
    alignIn u = { u with bitpos := 0, cur := if u.bitpos = 0 then u.cur else u.cur + 1 } := by
  unfold alignIn
  split
  · next h => rw [← h]
  · rfl

/-! ### Literal/length symbols (R104, R263) -/

/-- A meaning with an extra field is the meaning of its value. -/
theorem exec_extra {meaning : Nat → State → Res} {e w : Nat} (f : BitVec w → Instr)
    (h : ∀ x s, exec (f x) s = meaning x.toNat s) (he : e < 2 ^ w) (s : State) :
    exec (f (BitVec.ofNat w e)) s = meaning e s := by
  rw [h, BitVec.toNat_ofNat, Nat.mod_eq_of_lt he]

theorem lenExtra_eq_zero {k : Nat} (h257 : 257 ≤ k) (hk : k < 265 ∨ k = 285) : lenExtra k = 0 := by
  obtain hk | rfl := hk
  · interval_cases k <;> rfl
  · rfl

/-- Every length symbol is `lengthSym` of its extra value (R104). -/
theorem exec_llInstr {k e : Nat} (h257 : 257 ≤ k) (h285 : k ≤ 285) (he : e < 2 ^ lenExtra k) :
    ∃ i, llInstr k e = some i ∧ i.symbol = k ∧ ∀ s, exec i s = lengthSym k e s := by
  by_cases hk : k < 265 ∨ k = 285
  · rw [lenExtra_eq_zero h257 hk] at he
    obtain rfl : e = 0 := by omega
    obtain hk | rfl := hk
    · interval_cases k <;> exact ⟨_, rfl, rfl, fun _ => rfl⟩
    · exact ⟨_, rfl, rfl, fun _ => rfl⟩
  · obtain ⟨h265, h284⟩ : 265 ≤ k ∧ k ≤ 284 := by omega
    interval_cases k <;> exact ⟨_, rfl, rfl, exec_extra _ (fun _ _ => rfl) he⟩

/-- Settles O35: a literal is one byte produced, `LL.EOB` the end of the block, and a length symbol holds its length. -/
theorem literalLengthSymbols : Obligations.LiteralLengthSymbols := by
  refine ⟨fun b s => ⟨⟨_, rfl, produces_litOut b s⟩, fun hf => ?_, fun hf => ?_⟩, fun k e s h257 h285 he => ?_⟩
  · exact congrArg Host.Outcome.next (if_neg (by rw [hf]; exact Bool.false_ne_true))
  · rw [← trailerWant_eq, ← alignIn_eq]
    exact congrArg Host.Outcome.next (if_pos hf)
  · obtain ⟨i, hi, hsym, hexec⟩ := exec_llInstr h257 h285 he
    exact ⟨i, hi, hsym, hexec s⟩

/-! ### Stored bodies (R101, R257) -/

theorem xor_ones_eq_not (len : BitVec 16) : len ^^^ 0xFFFF#16 = ~~~len := BitVec.xor_allOnes

/-- A reader that takes more than there is has no answer (R72). -/
theorem Took.eq_none {α : Type} {n : Nat} {bs : List Bool} {o : Option (α × List Bool)} (h : Took n bs o)
    (hl : bs.length < n) : o = none := by
  cases o with
  | none => rfl
  | some p => have := (h p.1 p.2 rfl).2; omega

theorem takeBytes_of_le {n : Nat} {body : List Byte} (h : n ≤ body.length) :
    takeBytes n (bitsOfBytes body) = some (body.take n, bitsOfBytes (body.drop n)) := by
  have hb := takeBytes_bitsOfBytes_of_length (List.length_take_of_le h) (bitsOfBytes (body.drop n))
  rwa [← bitsOfBytes_append, List.take_append_drop] at hb

/-- The reader past the padding, `LEN` and `NLEN` (R257). -/
theorem decodeStored_lens (pad : List Bool) (len nlen : BitVec 16) (body : List Byte) :
    decodeStored pad.length (pad ++ bitsOfBytes (leBytes 2 len.toNat ++ leBytes 2 nlen.toNat ++ body)) =
      if nlen = ~~~len then
        need (takeBytes len.toNat (bitsOfBytes body)) fun data r => .ok (.dflStoredBody len nlen data) r
      else .ok (.dflStoredBody len nlen []) (bitsOfBytes body) := by
  rw [decodeStored, List.drop_left, bitsOfBytes_append, bitsOfBytes_append, List.append_assoc,
    takeLeBits_leBytes (by decide), need_some, takeLeBits_leBytes (by decide), need_some]

theorem decodeStored_short (pad : List Bool) {few : List Byte} (h : few.length < 4) :
    decodeStored pad.length (pad ++ bitsOfBytes few) = .short := by
  rw [decodeStored, List.drop_left]
  have htook := took_takeLeBits 16 2 (bitsOfBytes few)
  cases hlen : takeLeBits 16 2 (bitsOfBytes few) with
  | none => rfl
  | some p =>
    have hr := (htook p.1 p.2 hlen).2
    rw [bitsOfBytes_length] at hr
    rw [need, (took_takeLeBits 16 2 p.2).eq_none (by omega)]
    rfl

/-- A body whose `NLEN` passes is copied, and its block ends (R257). -/
theorem exec_dflStoredBody {len nlen : BitVec 16} (h : nlen = ~~~len) (data : List Byte) (s : State) :
    exec (.dflStoredBody len nlen data) s = .next (blockEnd (litsOut data s)) :=
  congrArg Host.Outcome.next (if_pos h)

theorem exec_dflStoredBody_bad {len nlen : BitVec 16} (h : nlen ≠ ~~~len) (data : List Byte) (s : State) :
    exec (.dflStoredBody len nlen data) s = .next (raiseSeq .dflStoredLen s) :=
  congrArg Host.Outcome.next (if_neg h)

/-- Producing bytes leaves what decides the end of a block (R255). -/
theorem blockEnd_of_produces {bs : List Byte} {s u : State} (h : Produces bs s u) :
    blockEnd u =
      if s.unp.bfinal then { u with unp := alignIn u.unp, phase := .trailer, want := trailerWant (codec s) }
      else { u with want := .dflHdr } := by
  obtain ⟨hu, -⟩ := h
  have hfinal : u.unp.bfinal = s.unp.bfinal := by rw [hu]
  have hcodec : codec u = codec s := by rw [codec, codec, hu]
  rw [blockEnd, hfinal, hcodec]

/-- Settles O33: `NLEN` decides between the copy and the failure, in the meaning as in the reader. -/
theorem storedBodyIsCopied : Obligations.StoredBodyIsCopied := by
  refine ⟨fun len nlen data s => ?_, fun pad len nlen body _ => ?_, fun pad few _ hfew => decodeStored_short pad hfew⟩
  · rw [xor_ones_eq_not]
    refine ⟨fun hn hw => ?_, fun hn hb hc => ?_⟩
    · have hprod := produces_litsOut data hw
      exact ⟨_, _, hprod, exec_dflStoredBody hn data s, blockEnd_of_produces hprod⟩
    · exact ⟨_, exec_dflStoredBody_bad hn data s, raiseSeq_failedAs hb hc _⟩
  · rw [xor_ones_eq_not]
    refine (decodeStored_lens pad len nlen body).trans (if_congr Iff.rfl ?_ rfl)
    split
    · next hlt => rw [(took_takeBytes _ _).eq_none (by rw [bitsOfBytes_length]; omega)]; rfl
    · next hge => rw [takeBytes_of_le (Nat.not_lt.mp hge), need_some]

end Sys2Proof.Proofs


/-! PROOFS. The length tables of a dynamic block being read: its header (O34), and the symbol that completes `Q`
(O38). -/

namespace Sys2Proof.Proofs

open Machine Safety Laws

/-! ### Trees held in tables (R44, R45, R208) -/

/-- The codes of a table that is not over-subscribed fit the limit of its lengths (R208, R213). -/
theorem assignCodes_lt {l : Nat} {lens : List Nat} (hle : ∀ n ∈ lens, n ≤ l) (hk : kraft l lens ≤ 2 ^ l) :
    ∀ c ∈ assignCodes lens, c < 2 ^ l := by
  obtain ⟨hlen, hfits, -⟩ := canonicalCodesArePrefixFree l lens hle (by simpa [overSubscribed] using hk)
  intro c hc
  obtain ⟨a, ha, rfl⟩ := List.getElem_of_mem hc
  have ha' : a < lens.length := lt_of_lt_of_eq ha hlen
  have hcode : (assignCodes lens).getD a 0 < 2 ^ lens.getD a 0 := hfits a
  rw [List.getD_eq_getElem _ _ ha, List.getD_eq_getElem _ _ ha'] at hcode
  exact hcode.trans_le (Nat.pow_le_pow_right Nat.two_pos (hle _ (List.getElem_mem ha')))

theorem treeCL_withCL {t : Tables} {x : Tree} (hl : ∀ n ∈ x.lens, n < 2 ^ 3) (hc : ∀ n ∈ x.codes, n < 2 ^ 7) :
    (t.withCL x).treeCL = x := by
  rw [Tables.withCL, Tables.treeCL, map_toNat_ofNat hl, map_toNat_ofNat hc]

/-- The code-length tree of a table that passes the check is held as it is (R259). -/
theorem treeCL_withCL_treeOf {t : Tables} {lens : List Nat} (hl : ∀ n ∈ lens, n < 2 ^ 3) (hk : kraft 7 lens ≤ 2 ^ 7) :
    (t.withCL (treeOf lens)).treeCL = treeOf lens :=
  treeCL_withCL hl (assignCodes_lt (fun n hn => Nat.le_of_lt_succ (hl n hn)) hk)

/-! ### The code-length lengths in wire order (R107, R259) -/

theorem clLensOf_length (cl : List Nat) : (clLensOf cl).length = 19 := by rw [clLensOf, List.length_map]; rfl

/-- The place of a symbol in the wire order is where it is found. -/
theorem firstIdx_clOrder : ∀ j, j < 19 → firstIdx (fun o => o == clOrder.getD j 0) clOrder = some j := by decide

theorem clOrder_lt : ∀ j, j < 19 → clOrder.getD j 0 < 19 := by decide

theorem clLensOf_getD_of_firstIdx (cl : List Nat) {s j : Nat} (hs : s < 19)
    (hj : firstIdx (fun o => o == s) clOrder = some j) : (clLensOf cl).getD s 0 = cl.getD j 0 := by
  rw [List.getD_eq_getElem _ _ (by rwa [clLensOf_length])]
  simp only [clLensOf, List.getElem_map, List.getElem_range, hj]

theorem clLensOf_getD_clOrder (cl : List Nat) {j : Nat} (h : j < 19) :
    (clLensOf cl).getD (clOrder.getD j 0) 0 = cl.getD j 0 :=
  clLensOf_getD_of_firstIdx cl (clOrder_lt j h) (firstIdx_clOrder j h)

theorem getD_lt {m : Nat} {xs : List Nat} (hm : 0 < m) (h : ∀ x ∈ xs, x < m) (j : Nat) : xs.getD j 0 < m := by
  by_cases hj : j < xs.length
  · rw [List.getD_eq_getElem _ _ hj]
    exact h _ (List.getElem_mem hj)
  · rw [List.getD_eq_default _ _ (Nat.not_lt.mp hj)]
    exact hm

theorem clLensOf_lt {m : Nat} {cl : List Nat} (hm : 0 < m) (h : ∀ x ∈ cl, x < m) : ∀ n ∈ clLensOf cl, n < m := by
  intro n hn
  obtain ⟨s, -, rfl⟩ := List.mem_map.mp hn
  cases firstIdx (fun o => o == s) clOrder with
  | some j => exact getD_lt hm h j
  | none => exact hm

/-- Numbers read from a register fit it (R44). -/
theorem map_toNat_lt {w : Nat} (xs : List (BitVec w)) : ∀ n ∈ xs.map BitVec.toNat, n < 2 ^ w := by
  intro n hn
  obtain ⟨v, -, rfl⟩ := List.mem_map.mp hn
  exact v.isLt

/-! ### The dynamic header (R258, R259) -/

theorem dynCountsBad_iff (hlit hdist : BitVec 5) :
    dynCountsBad hlit hdist = true ↔ 286 < hlit.toNat + 257 ∨ 30 < hdist.toNat + 1 := by
  simp [dynCountsBad]

theorem overSubscribed_iff (l : Nat) (lens : List Nat) : overSubscribed l lens = true ↔ 2 ^ l < kraft l lens :=
  decide_eq_true_iff

/-- The unpacker registers, the tables and `Q` are no part of what a failure leaves (R440). -/
theorem failedAs_of_working {d : Detail} {s t : State} {hlit hdist : BitVec 5} {hclen : BitVec 4} {tabs : Tables}
    {q : List (BitVec 4)}
    (h : FailedAs d { s with unp := { s.unp with hlit := hlit, hdist := hdist, hclen := hclen }, tabs := tabs,
                             rdQ := q } t) : FailedAs d s t := h

section
variable (hlit hdist : BitVec 5) (hclen : BitVec 4) (cl : List (BitVec 3)) (s : State)

/-- The counts of a header are held (R258). -/
def withCounts : State := { s with unp := { s.unp with hlit := hlit, hdist := hdist, hclen := hclen } }

/-- The code-length tree of a header is held, and `Q` is empty (R259). -/
def withClTree : State :=
  { withCounts hlit hdist hclen s with
    tabs := s.tabs.withCL (treeOf (clLensOf (cl.map BitVec.toNat))), rdQ := [] }

theorem exec_dflDynHeader :
    exec (.dflDynHeader hlit hdist hclen cl) s = .next
      (if dynCountsBad hlit hdist then raiseSeq .dflBadCounts (withCounts hlit hdist hclen s)
       else if overSubscribed 7 (clLensOf (cl.map BitVec.toNat)) then
         raiseSeq .dflClOversub (withClTree hlit hdist hclen cl s)
       else { withClTree hlit hdist hclen cl s with want := .clSym }) := by
  rw [exec, execDflDynHeader]
  split
  · rfl
  · dsimp only [treeOf]
    split <;> rfl

end

/-- Settles O34: the counts are tested before the lengths are looked at, and a table that passes is held as it is. -/
theorem dynamicHeaderIsChecked : Obligations.DynamicHeaderIsChecked := by
  refine ⟨fun cl => ⟨clLensOf_length cl, fun j hj => clLensOf_getD_clOrder cl hj⟩, fun hlit hdist hclen cl s => ?_⟩
  have hexec := exec_dflDynHeader hlit hdist hclen cl s
  have hcounts (hl : hlit.toNat + 257 ≤ 286) (hd : hdist.toNat + 1 ≤ 30) : ¬ dynCountsBad hlit hdist = true := by
    rw [dynCountsBad_iff]; omega
  refine ⟨fun hbad hb hc => ?_, fun hl hd hover hb hc => ?_, fun hl hd hk => ?_⟩
  · rw [if_pos ((dynCountsBad_iff hlit hdist).mpr hbad)] at hexec
    exact ⟨_, hexec, failedAs_of_working (raiseSeq_failedAs (s := withCounts hlit hdist hclen s) hb hc _)⟩
  · rw [if_neg (hcounts hl hd), if_pos ((overSubscribed_iff _ _).mpr hover)] at hexec
    exact ⟨_, hexec, failedAs_of_working (raiseSeq_failedAs (s := withClTree hlit hdist hclen cl s) hb hc _)⟩
  · rw [if_neg (hcounts hl hd), if_neg ((overSubscribed_iff _ _).not.mpr (Nat.not_lt.mpr hk))] at hexec
    have htree := treeCL_withCL_treeOf (t := s.tabs) (clLensOf_lt (by decide) (map_toNat_lt cl)) hk
    refine ⟨_, hexec, rfl, rfl, congrArg Tree.lens htree, fun a _ _ => ?_⟩
    exact congrArg (fun x : Tree => x.codes.getD a 0) htree

/-! ### The tables of a complete `Q` (R260, R261) -/

theorem treeLL_withLL_lens {t : Tables} {x : Tree} (hl : ∀ n ∈ x.lens, n < 2 ^ 4) : (t.withLL x).treeLL.lens = x.lens :=
  map_toNat_ofNat hl

theorem treeD_withD_lens {t : Tables} {x : Tree} (hl : ∀ n ∈ x.lens, n < 2 ^ 4) : (t.withD x).treeD.lens = x.lens :=
  map_toNat_ofNat hl

/-- Codes of lengths to 15 that pass the check fit the code tables (R208, R261). -/
theorem codes_lt_of_lens {lens : List Nat} (hl : ∀ n ∈ lens, n < 2 ^ 4) (hk : kraft 15 lens ≤ 2 ^ 15) :
    ∀ c ∈ (treeOf lens).codes, c < 2 ^ 15 :=
  assignCodes_lt (fun n hn => Nat.le_of_lt_succ (hl n hn)) hk

theorem padTo_of_le {n : Nat} {xs : List Nat} (h : xs.length ≤ n) :
    padTo n xs = xs ++ List.replicate (n - xs.length) 0 := by
  rw [padTo, List.take_of_length_le h]

theorem padTo_lt {n m : Nat} {xs : List Nat} (hm : 0 < m) (h : ∀ x ∈ xs, x < m) : ∀ x ∈ padTo n xs, x < m := by
  intro x hx
  obtain hx | hx := List.mem_append.mp hx
  · exact h x (List.mem_of_mem_take hx)
  · exact List.eq_of_mem_replicate hx ▸ hm

/-- `Q` as numbers (R260). -/
def qLens (s : State) : List Nat := s.rdQ.map BitVec.toNat

/-- `LEN_LL` of a complete `Q` (R260). -/
def llOfQ (s : State) : List Nat := padTo 288 ((qLens s).take (nllRead s))

/-- `LEN_D` of a complete `Q` (R260). -/
def dOfQ (s : State) : List Nat := padTo 32 (((qLens s).drop (nllRead s)).take (ndRead s))

theorem llOfQ_lt (s : State) : ∀ n ∈ llOfQ s, n < 2 ^ 4 :=
  padTo_lt (by decide) fun n hn => map_toNat_lt s.rdQ n (List.mem_of_mem_take hn)

theorem dOfQ_lt (s : State) : ∀ n ∈ dOfQ s, n < 2 ^ 4 :=
  padTo_lt (by decide) fun n hn => map_toNat_lt s.rdQ n (List.mem_of_mem_drop (List.mem_of_mem_take hn))

/-- The two tables with the lengths of a complete `Q` and their codes (R260, R208). -/
def tabsOfQ (s : State) : Tables := (s.tabs.withLL (treeOf (llOfQ s))).withD (treeOf (dOfQ s))

theorem finishLens_eq (s : State) :
    finishLens s =
      if (llOfQ s).getD 256 0 = 0 then raiseSeq .dflNoEob { s with tabs := tabsOfQ s }
      else if 2 ^ 15 < kraft 15 (llOfQ s) then raiseSeq .dflLlOversub { s with tabs := tabsOfQ s }
      else if 2 ^ 15 < kraft 15 (dOfQ s) then raiseSeq .dflDOversub { s with tabs := tabsOfQ s }
      else { s with tabs := tabsOfQ s, want := .llSym } := by
  simp only [← overSubscribed_iff]
  rfl

theorem finishLens_tabs (s : State) : (finishLens s).tabs = tabsOfQ s := by
  rw [finishLens_eq]
  split
  · exact raiseSeq_tabs ..
  · split
    · exact raiseSeq_tabs ..
    · split
      · exact raiseSeq_tabs ..
      · rfl

theorem tabsOfQ_treeLL_lens (s : State) : (tabsOfQ s).treeLL.lens = llOfQ s :=
  treeLL_withLL_lens (t := s.tabs) (x := treeOf (llOfQ s)) (llOfQ_lt s)

theorem tabsOfQ_treeD_lens (s : State) : (tabsOfQ s).treeD.lens = dOfQ s :=
  treeD_withD_lens (t := s.tabs.withLL _) (x := treeOf (dOfQ s)) (dOfQ_lt s)

theorem tabsOfQ_treeLL {s : State} (hk : kraft 15 (llOfQ s) ≤ 2 ^ 15) : (tabsOfQ s).treeLL = treeOf (llOfQ s) :=
  treeLL_withLL (t := s.tabs) (llOfQ_lt s) (codes_lt_of_lens (llOfQ_lt s) hk)

theorem tabsOfQ_treeD {s : State} (hk : kraft 15 (dOfQ s) ≤ 2 ^ 15) : (tabsOfQ s).treeD = treeOf (dOfQ s) :=
  treeD_withD (dOfQ_lt s) (codes_lt_of_lens (dOfQ_lt s) hk)

/-! ### The element that completes `Q` (R260) -/

/-- `Q` with `n` lengths `v` more (R260). -/
def withLens (v : BitVec 4) (n : Nat) (s : State) : State := { s with rdQ := s.rdQ ++ List.replicate n v }

section
variable {v : BitVec 4} {n : Nat} {s : State} (h : s.rdQ.length + n = nllRead s + ndRead s)
include h

theorem appendLens_of_eq : appendLens v n s = finishLens (withLens v n s) := by
  rw [appendLens]
  refine if_pos ?_
  rw [List.length_append, List.length_replicate]
  exact Nat.le_of_eq h.symm

theorem repeatLens_of_eq : repeatLens v n s = finishLens (withLens v n s) := by
  rw [repeatLens, if_neg (Nat.not_lt.mpr (Nat.le_of_eq h)), appendLens_of_eq h]

theorem qLens_length_withLens : (qLens (withLens v n s)).length = nllRead s + ndRead s := by
  rw [qLens, withLens, List.length_map, List.length_append, List.length_replicate, h]

/-- The element that appends the last lengths of `Q`, a length or a repeat, goes on to the tables. -/
theorem exec_completing {i : Instr}
    (hi : clInstr v.toNat 0 = some i ∧ n = 1 ∨
      (∃ e : BitVec 2, i = .clRepPrev e ∧ s.rdQ.getLast? = some v ∧ n = 3 + e.toNat) ∨
      (∃ e : BitVec 3, i = .clRepZeroShort e ∧ v = 0 ∧ n = 3 + e.toNat) ∨
      (∃ e : BitVec 7, i = .clRepZeroLong e ∧ v = 0 ∧ n = 11 + e.toNat)) :
    exec i s = .next (finishLens (withLens v n s)) := by
  obtain ⟨hlen, rfl⟩ | ⟨e, rfl, hlast, rfl⟩ | ⟨e, rfl, rfl, rfl⟩ | ⟨e, rfl, rfl, rfl⟩ := hi
  · obtain ⟨j, hj, -, hexec⟩ := clInstr_len (Nat.le_of_lt_succ v.isLt)
    obtain rfl : j = i := Option.some.inj (hj.symm.trans hlen)
    rw [hexec, BitVec.ofNat_toNat, BitVec.setWidth_eq, appendLens_of_eq h]
  · exact (execClRepPrev_of_last e hlast).trans (congrArg Host.Outcome.next (repeatLens_of_eq h))
  · exact congrArg Host.Outcome.next (repeatLens_of_eq h)
  · exact congrArg Host.Outcome.next (repeatLens_of_eq h)

end

theorem llOfQ_eq {s : State} (hq : (qLens s).length = nllRead s + ndRead s) (hl : nllRead s ≤ 288) :
    llOfQ s = (qLens s).take (nllRead s) ++ List.replicate (288 - nllRead s) 0 := by
  have hlen : ((qLens s).take (nllRead s)).length = nllRead s := List.length_take_of_le (by omega)
  rw [llOfQ, padTo_of_le (by rw [hlen]; exact hl), hlen]

theorem dOfQ_eq {s : State} (hq : (qLens s).length = nllRead s + ndRead s) (hd : ndRead s ≤ 32) :
    dOfQ s = (qLens s).drop (nllRead s) ++ List.replicate (32 - ndRead s) 0 := by
  have hlen : ((qLens s).drop (nllRead s)).length = ndRead s := by rw [List.length_drop]; omega
  rw [dOfQ, List.take_of_length_le (Nat.le_of_eq hlen), padTo_of_le (by rw [hlen]; exact hd), hlen]

/-- Settles O38: each element is one `finishLens` of the complete `Q`, and what passes the checks is held as it is. -/
theorem lastCodeLengthLoadsTheTables : Obligations.LastCodeLengthLoadsTheTables := by
  intro s i v n hb hc hhlit hhdist hi htotal
  rw [← nllRead_add_ndRead] at htotal
  intro q nll ll d
  have hqlen := qLens_length_withLens (v := v) htotal
  have hq : qLens (withLens v n s) = q := by rw [qLens, withLens, List.map_append, List.map_replicate]
  have hll : llOfQ (withLens v n s) = ll := by
    rw [llOfQ_eq hqlen (by show s.unp.hlit.toNat + 257 ≤ 288; omega), hq]; rfl
  have hd : dOfQ (withLens v n s) = d := by
    rw [dOfQ_eq hqlen (by show s.unp.hdist.toNat + 1 ≤ 32; omega), hq]; rfl
  clear_value ll d
  subst hll hd
  have hfail (x : Detail) : FailedAs x s (raiseSeq x { withLens v n s with tabs := tabsOfQ (withLens v n s) }) :=
    failedAs_of_working
      (raiseSeq_failedAs (s := { withLens v n s with tabs := tabsOfQ (withLens v n s) }) hb hc x)
  refine ⟨_, exec_completing htotal hi, ?_, ?_, ?_⟩
  · rw [finishLens_tabs, tabsOfQ_treeLL_lens]
  · rw [finishLens_tabs, tabsOfQ_treeD_lens]
  · rw [finishLens_eq]
    split_ifs with hEob hoverLL hoverD
    · exact hfail _
    · exact hfail _
    · exact hfail _
    · have htreeLL := tabsOfQ_treeLL (Nat.not_lt.mp hoverLL)
      have htreeD := tabsOfQ_treeD (Nat.not_lt.mp hoverD)
      exact ⟨rfl, rfl, rfl, fun a _ => congrArg (fun x : Tree => x.codes.getD a 0) htreeLL,
        fun a _ => congrArg (fun x : Tree => x.codes.getD a 0) htreeD⟩

end Sys2Proof.Proofs


/-! PROOFS. The DEFLATE packer: the bits of each token (O25) and of the end of a block (O26). -/

namespace Sys2Proof.Proofs

open Machine Safety Laws

/-! ### The tokens of a DEFLATE-family compression (R92, R182) -/

theorem packer_of_isDeflate {s : State} (hc : (codec s).isDeflate = true) : packer s = .dfl := by
  unfold packer
  cases hk : codec s
  case deflate | zlib | gzip => rfl
  case lz4 | snappy | zstd | reserved => rw [hk] at hc; cases hc

theorem matchLimits_of_isDeflate {s : State} (hc : (codec s).isDeflate = true) :
    matchLimits s = { minMatch := 3, maxMatch := 258, maxOffset := windowBytes s, lz4 := false } := by
  unfold matchLimits
  cases hk : codec s
  case deflate | zlib | gzip | zstd | reserved => rfl
  case lz4 | snappy => rw [hk] at hc; cases hc

section
variable {s : State} {g : Engine} (hd : s.dir = .compress) (hc : (codec s).isDeflate = true)
  (hg : s.engines[s.actor]? = some g)
include hd hc hg

theorem exec_lit_deflate (b : Byte) : exec (.lit b) s = .next (setEngine s.actor (dflLit b g) s) := by
  simp only [exec, execLit, hd, packLit, withEngine, hg, packer_of_isDeflate hc, storeEngine, ofRead]

theorem exec_eob_deflate : exec .eob s = .next (setEngine s.actor (dflEob g) s) := by
  simp only [exec, execEob, hd, packEob, withEngine, hg, packer_of_isDeflate hc, storeEngine, ofRead]

/-- A match within R92 is consumed. -/
theorem exec_matchTok_deflate {off : BitVec 17} {len : BitVec 16} (h1 : 1 ≤ off.toNat)
    (hoff : off.toNat ≤ windowBytes s) (h3 : 3 ≤ len.toNat) (hlen : len.toNat ≤ 258) :
    exec (.matchTok off len) s = .next (setEngine s.actor (dflMatch off.toNat len.toNat g) s) := by
  have hr : matchInRange (matchLimits s) off.toNat len.toNat = true := by
    rw [matchLimits_of_isDeflate hc]
    exact decide_eq_true ⟨h1, hoff, h3, hlen⟩
  simp only [exec, execMatchTok, hd, packMatch, withEngine, hg, packer_of_isDeflate hc, hr, if_true, storeEngine,
    ofRead]

end

/-! ### What the packer writes (R71, R210, R244) -/

/-- Writing leaves the unit. -/
theorem onlyWrote_unit {g h : Engine} (hw : OnlyWrote g h) : h.unit = g.unit := by
  obtain ⟨hsame, -⟩ := hw
  rw [hsame]

theorem engineBits_putSym (t : Tree) (x : Nat) (g : Engine) : engineBits (putSym t x g) = engineBits g ++ symBits t x :=
  engineBits_putBitList _ g

theorem onlyWrote_putSym (t : Tree) (x : Nat) (g : Engine) : OnlyWrote g (putSym t x g) := onlyWrote_putBitList _ g

theorem engineBits_putSymX (t : Tree) (x : SymX) (g : Engine) :
    engineBits (putSymX t x g) = engineBits g ++ (symBits t x.sym ++ natBits x.bits x.extra) := by
  rw [putSymX, engineBits_putBits, engineBits_putSym, List.append_assoc]

theorem onlyWrote_putSymX (t : Tree) (x : SymX) (g : Engine) : OnlyWrote g (putSymX t x g) :=
  onlyWrote_trans (onlyWrote_putSym t x.sym g) (onlyWrote_putBits _ _ _)

theorem onlyWrote_putBytes (bs : List Byte) (g : Engine) : OnlyWrote g (putBytes bs g) := ⟨rfl, bs, rfl, rfl⟩

theorem putBytes_bitcnt (bs : List Byte) (g : Engine) : (putBytes bs g).bitcnt = g.bitcnt := rfl

/-- At a byte boundary bytes are written as they are (R70). -/
theorem engineBits_putBytes {g : Engine} (h : g.bitcnt = 0) (bs : List Byte) :
    engineBits (putBytes bs g) = engineBits g ++ bitsOfBytes bs := by
  simp [engineBits, putBytes, h, bitsOfBytes_append, natBits]

theorem dflLit_pack {g : Engine} (h : g.job = .pack) (b : Byte) : dflLit b g = putSym g.tabs.treeLL b.toNat g := by
  rw [dflLit, h]; rfl

theorem dflMatch_pack {g : Engine} (h : g.job = .pack) (off len : Nat) :
    dflMatch off len g = putSymX g.tabs.treeD (distSym off) (putSymX g.tabs.treeLL (lenSym len) g) := by
  rw [dflMatch, h]; rfl

theorem dflEob_pack {g : Engine} (h : g.job = .pack) :
    dflEob g = finishEngine (endBlock (putSym g.tabs.treeLL 256 g)) := by
  rw [dflEob, h]; rfl

/-- Settles O25: a packing engine puts the symbols with their extra bits, and putting bits only writes. -/
theorem deflatePackerWritesTokens : Obligations.DeflatePackerWritesTokens := by
  intro s g b off len hd hc hg hj
  refine ⟨⟨_, _, exec_lit_deflate hd hc hg b, rfl, ?_⟩, fun h1 hoff h3 hlen =>
    ⟨_, _, exec_matchTok_deflate hd hc hg h1 hoff h3 hlen, rfl, ?_⟩⟩
  · rw [dflLit_pack hj]
    exact ⟨onlyWrote_putSym .., engineBits_putSym ..⟩
  · rw [dflMatch_pack hj]
    refine ⟨onlyWrote_trans (onlyWrote_putSymX ..) (onlyWrote_putSymX ..), ?_⟩
    simp only [engineBits_putSymX, List.append_assoc]

/-! ### The end of a block (R71, R251, R252) -/

theorem natBits_zero (k : Nat) : natBits k 0 = List.replicate k false := by
  induction k with
  | zero => rfl
  | succ k ih => rw [natBits, ih]; rfl

theorem length_natBits (k v : Nat) : (natBits k v).length = k := by
  induction k generalizing v with
  | zero => rfl
  | succ k ih => rw [natBits, List.length_cons, ih]

theorem putBit_bitcnt (b : Bool) (g : Engine) : (putBit b g).bitcnt = g.bitcnt + 1 := by
  unfold putBit
  dsimp only
  split
  · next h => rw [h]; rfl
  · rfl

theorem putBitList_bitcnt (bs : List Bool) (g : Engine) :
    (putBitList bs g).bitcnt = g.bitcnt + BitVec.ofNat 3 bs.length := by
  induction bs generalizing g with
  | nil => exact (BitVec.add_zero _).symm
  | cons b bs ih =>
    rw [putBitList, ih, putBit_bitcnt, List.length_cons, BitVec.ofNat_add, BitVec.add_assoc, BitVec.add_comm 1]; rfl

/-- Aligning writes fewer than 8 zeros and ends at a byte boundary (R71). -/
theorem alignOut_spec (g : Engine) :
    ∃ pad, pad < 8 ∧ OnlyWrote g (alignOut g) ∧ (alignOut g).bitcnt = 0 ∧
      engineBits (alignOut g) = engineBits g ++ List.replicate pad false := by
  unfold alignOut
  split
  · next h => exact ⟨0, by decide, onlyWrote_refl g, h, (List.append_nil _).symm⟩
  · next h =>
    refine ⟨8 - g.bitcnt.toNat, by bv_omega, onlyWrote_putBits .., ?_, ?_⟩
    · rw [putBits, putBitList_bitcnt, length_natBits]
      bv_omega
    · rw [engineBits_putBits, natBits_zero]

/-- The end of a block writes padding, or the SYNC marker with its padding, up to a byte boundary (R251, R252). -/
theorem endBlock_spec (g : Engine) :
    ∃ pad, pad < 8 ∧ OnlyWrote g (endBlock g) ∧ (endBlock g).bitcnt = 0 ∧
      engineBits (endBlock g) = engineBits g ++
        (if g.unit.isFinal then List.replicate pad false
         else List.replicate (3 + pad) false ++ bitsOfBytes [0, 0, 0xFF, 0xFF]) := by
  unfold endBlock
  split
  · exact alignOut_spec g
  · obtain ⟨pad, hpad, hwrote, hcnt, hbits⟩ := alignOut_spec (putBits 0 3 g)
    refine ⟨pad, hpad, onlyWrote_trans (onlyWrote_trans (onlyWrote_putBits ..) hwrote) (onlyWrote_putBytes ..),
      (putBytes_bitcnt ..).trans hcnt, ?_⟩
    rw [engineBits_putBytes hcnt, hbits, engineBits_putBits, natBits_zero, ← List.replicate_append_replicate]
    simp only [List.append_assoc]

/-- At a byte boundary all bits written are in the result. -/
theorem engineBits_aligned {g : Engine} (h : g.bitcnt = 0) : engineBits g = bitsOfBytes g.result.bytes := by
  simp [engineBits, h, natBits]

/-- Settles O26: the end-of-block code and the end of the block only write, up to a byte boundary, and the engine then
finishes. -/
theorem deflateBlockEndIsAligned : Obligations.DeflateBlockEndIsAligned := by
  intro s g hd hc hg hj
  obtain ⟨pad, hpad, hwrote, hcnt, hbits⟩ := endBlock_spec (putSym g.tabs.treeLL 256 g)
  obtain ⟨hsame, hgrew⟩ := onlyWrote_trans (onlyWrote_putSym g.tabs.treeLL 256 g) hwrote
  have hunit : (putSym g.tabs.treeLL 256 g).unit = g.unit := onlyWrote_unit (onlyWrote_putSym ..)
  rw [engineBits_aligned hcnt, engineBits_putSym, hunit] at hbits
  have hexec := exec_eob_deflate hd hc hg
  rw [dflEob_pack hj] at hexec
  generalize endBlock (putSym g.tabs.treeLL 256 g) = h at *
  refine ⟨_, _, pad, hexec, rfl, rfl, hcnt, hpad, hbits, hgrew, ?_, rfl, ?_, ?_, rfl, rfl, ?_⟩
  · show h.blklen = g.blklen
    rw [hsame]
  · show h.unit.index = g.unit.index
    rw [hsame]
  · show h.unit.isFinal = g.unit.isFinal
    rw [hsame]
  · rw [finishEngine, hsame]

end Sys2Proof.Proofs


/-! PROOFS. The first read of `TOKBUF` (O27): the statistics, and the header of a dynamic block. -/

namespace Sys2Proof.Proofs

open Machine Safety Laws

/-! ### Counting a token (R245) -/

/-- The entry of one symbol grows by 1, the others stay (R245). -/
theorem bump_getD (i : Nat) {fs : List Word} {k : Nat} (hk : k < fs.length) :
    (bump i fs).getD k 0 = fs.getD k 0 + (if k = i then 1 else 0) := by
  rw [bump]
  split
  · next h => subst h; simp [hk]
  · next h => simp [List.getElem?_set_ne (Ne.symm h)]

theorem dflLit_count {g : Engine} (h : g.job = .count) (b : Byte) :
    dflLit b g = { g with freqLL := bump b.toNat g.freqLL } := by
  rw [dflLit, if_pos h]

theorem dflMatch_count {g : Engine} (h : g.job = .count) (off len : Nat) :
    dflMatch off len g =
      { g with freqLL := bump (lenSym len).sym g.freqLL, freqD := bump (distSym off).sym g.freqD } := by
  rw [dflMatch, if_pos h]

/-! ### The number of lengths sent (R247, R248) -/

/-- `usedCount` is one more than the last index with a length, 0 where there is none. -/
theorem usedCount_spec (ns : List Nat) :
    (∀ x, usedCount ns ≤ x → ns.getD x 0 = 0) ∧ (usedCount ns = 0 ∨ ns.getD (usedCount ns - 1) 0 ≠ 0) := by
  induction ns with
  | nil => exact ⟨fun _ _ => rfl, .inl rfl⟩
  | cons n ns ih =>
    obtain ⟨hzero, hlast⟩ := ih
    rw [usedCount]
    split
    · next hnone =>
      have hrest (x : Nat) : ns.getD x 0 = 0 := hzero x (hnone ▸ Nat.zero_le x)
      split
      · next hn => exact ⟨fun x _ => by cases x with | zero => exact hn | succ x => exact hrest x, .inl rfl⟩
      · next hn => exact ⟨fun x hx => by cases x with | zero => cases hx | succ x => exact hrest x, .inr hn⟩
    · next hsome =>
      obtain ⟨u, hu⟩ := Nat.exists_eq_succ_of_ne_zero hsome
      rw [hu] at hzero hlast ⊢
      refine ⟨fun x hx => ?_, .inr (hlast.resolve_left (Nat.succ_ne_zero u))⟩
      obtain ⟨y, rfl⟩ := Nat.exists_eq_succ_of_ne_zero (Nat.ne_zero_of_lt hx)
      exact hzero y (Nat.le_of_succ_le_succ hx)

/-- The used entries, but at least `lo`: all after them are 0, and the last is not where there are more than `lo`. -/
theorem max_usedCount_spec {lo hi : Nat} {ns : List Nat} (hle : lo ≤ hi) (hz : ∀ x, hi ≤ x → ns.getD x 0 = 0) :
    lo ≤ max lo (usedCount ns) ∧ max lo (usedCount ns) ≤ hi ∧
      (∀ x, max lo (usedCount ns) ≤ x → ns.getD x 0 = 0) ∧
      (max lo (usedCount ns) = lo ∨ ns.getD (max lo (usedCount ns) - 1) 0 ≠ 0) := by
  obtain ⟨hzero, hlast⟩ := usedCount_spec ns
  refine ⟨Nat.le_max_left .., Nat.max_le.mpr ⟨hle, ?_⟩, fun x hx => hzero x ((Nat.le_max_right ..).trans hx), ?_⟩
  · by_contra hgt
    exact hlast.elim (by omega) fun h => h (hz _ (by omega))
  · obtain h | h := Nat.le_total (usedCount ns) lo
    · exact .inl (Nat.max_eq_left h)
    · rw [Nat.max_eq_right h]
      exact hlast.imp_left (by omega)

/-! ### The trees of a dynamic block (R246) -/

/-- The lengths of `HUF.BUILD` brought to the size of their table (R246). -/
theorem padTo_buildLengths {freq : List Nat} {l n : Nat} (h2 : 2 ≤ freq.length) (hl : freq.length ≤ 2 ^ l)
    (hn : freq.length ≤ n) :
    padTo n (buildLengths freq l) = buildLengths freq l ++ List.replicate (n - freq.length) 0 := by
  obtain ⟨hlen, -⟩ := builtTreesAreComplete freq l h2 hl
  rw [padTo, List.take_of_length_le (hlen ▸ hn), hlen]

theorem getD_zeros (n i : Nat) : (List.replicate n 0).getD i 0 = 0 := by
  by_cases h : i < n <;> simp [h]

/-- The lengths of a table of 288 or 32 entries, the last two unused (R246). -/
def tableLens (freq : List Word) : List Nat := buildLengths (freq.map BitVec.toNat) 15 ++ [0, 0]

theorem padTo_tableLens {freq : List Word} (h2 : 2 ≤ freq.length) (hl : freq.length ≤ 2 ^ 15) :
    padTo (freq.length + 2) (buildLengths (freq.map BitVec.toNat) 15) = tableLens freq := by
  have hlen : (freq.map BitVec.toNat).length = freq.length := List.length_map _
  rw [padTo_buildLengths (hlen ▸ h2) (hlen ▸ hl) (by omega), hlen, Nat.add_sub_cancel_left]
  rfl

theorem tableLens_lt {freq : List Word} (h2 : 2 ≤ freq.length) (hl : freq.length ≤ 2 ^ 15) :
    ∀ n ∈ tableLens freq, n < 2 ^ 4 := by
  have hlen : (freq.map BitVec.toNat).length = freq.length := List.length_map _
  obtain ⟨-, hle, -⟩ := builtTreesAreComplete (freq.map BitVec.toNat) 15 (hlen ▸ h2) (hlen ▸ hl)
  intro n hn
  obtain hn | hn := List.mem_append.mp hn
  · exact Nat.lt_succ_of_le (hle n hn)
  · exact (List.eq_of_mem_replicate (n := 2) hn : n = 0) ▸ Nat.two_pow_pos 4

theorem tableLens_getD {freq : List Word} (h2 : 2 ≤ freq.length) (hl : freq.length ≤ 2 ^ 15) {x : Nat}
    (hx : freq.length ≤ x) : (tableLens freq).getD x 0 = 0 := by
  have hlen : (freq.map BitVec.toNat).length = freq.length := List.length_map _
  obtain ⟨hsize, -⟩ := builtTreesAreComplete (freq.map BitVec.toNat) 15 (hlen ▸ h2) (hlen ▸ hl)
  rw [tableLens, List.getD_append_right _ _ _ _ (by omega)]
  exact getD_zeros 2 _

/-! ### The header of a dynamic block (R241, R246 to R250) -/

theorem engineBits_putItems (t : Tree) (its : List RleItem) (g : Engine) :
    engineBits (putItems t its g) =
      engineBits g ++ its.flatMap (fun it => symBits t it.sym ++ natBits it.bits it.extra) := by
  induction its generalizing g with
  | nil => exact (List.append_nil _).symm
  | cons it its ih =>
    rw [putItems, ih, engineBits_putBits, engineBits_putSym, List.flatMap_cons]
    simp only [List.append_assoc]

theorem onlyWrote_putItems (t : Tree) (its : List RleItem) (g : Engine) : OnlyWrote g (putItems t its g) := by
  induction its generalizing g with
  | nil => exact onlyWrote_refl g
  | cons it its ih =>
    exact onlyWrote_trans (onlyWrote_trans (onlyWrote_putSym t it.sym g) (onlyWrote_putBits _ _ _)) (ih _)

theorem engineBits_putClLens (lens os : List Nat) (g : Engine) :
    engineBits (putClLens lens os g) = engineBits g ++ os.flatMap (fun x => natBits 3 (lens.getD x 0)) := by
  induction os generalizing g with
  | nil => exact (List.append_nil _).symm
  | cons o os ih => rw [putClLens, ih, engineBits_putBits, List.flatMap_cons, List.append_assoc]

theorem onlyWrote_putClLens (lens os : List Nat) (g : Engine) : OnlyWrote g (putClLens lens os g) := by
  induction os generalizing g with
  | nil => exact onlyWrote_refl g
  | cons o os ih => exact onlyWrote_trans (onlyWrote_putBits _ 3 g) (ih _)

/-- The statistics of the code-length symbols (R248). -/
def clFreq (t : Tables) : List Nat := itemFreq 19 (treeItems t)

/-- The lengths of the code-length tree (R248). -/
def clLens (t : Tables) : List Nat := buildLengths (clFreq t) 7

/-- The three trees of a dynamic block from its statistics (R246, R248). -/
def dynTabs (g : Engine) : Tables := (buildTrees g).withCL (treeOf (clLens (buildTrees g)))

/-- The engine whose trees are built, with its header still to be written. -/
def treesBuilt (g : Engine) : Engine :=
  { g with tabs := dynTabs g, freqCL := (clFreq (buildTrees g)).map (BitVec.ofNat 32) }

/-- The bits of the header of a dynamic block, `t` its literal/length and distance trees (R241, R250). -/
def dynHeaderBits (isFinal : Bool) (t : Tables) : List Bool :=
  [isFinal, false, true] ++ natBits 5 (nllOf t - 257) ++ natBits 5 (ndOf t - 1) ++
    natBits 4 (clCount (clLens t) - 4) ++
    (clOrder.take (clCount (clLens t))).flatMap (fun x => natBits 3 ((clLens t).getD x 0)) ++
    (treeItems t).flatMap (fun it => symBits (treeOf (clLens t)) it.sym ++ natBits it.bits it.extra)

theorem nllOf_withCL (t : Tables) (x : Tree) : nllOf (t.withCL x) = nllOf t := rfl

theorem ndOf_withCL (t : Tables) (x : Tree) : ndOf (t.withCL x) = ndOf t := rfl

theorem writeDynHeader_eq (g : Engine) :
    writeDynHeader g =
      putItems (treeOf (clLens (buildTrees g))) (treeItems (buildTrees g))
        (putClLens (clLens (buildTrees g)) (clOrder.take (clCount (clLens (buildTrees g))))
          (putBits (clCount (clLens (buildTrees g)) - 4) 4 (putBits (ndOf (buildTrees g) - 1) 5
            (putBits (nllOf (buildTrees g) - 257) 5 (putHeader 2 (treesBuilt g)))))) := by
  simp only [writeDynHeader, nllOf_withCL, ndOf_withCL, clLens, clFreq, treesBuilt, dynTabs]

theorem onlyWrote_writeDynHeader (g : Engine) : OnlyWrote (treesBuilt g) (writeDynHeader g) := by
  rw [writeDynHeader_eq]
  refine onlyWrote_trans ?_ (onlyWrote_putItems ..)
  refine onlyWrote_trans ?_ (onlyWrote_putClLens ..)
  refine onlyWrote_trans ?_ (onlyWrote_putBits ..)
  refine onlyWrote_trans ?_ (onlyWrote_putBits ..)
  exact onlyWrote_trans (onlyWrote_putHeader ..) (onlyWrote_putBits ..)

theorem engineBits_writeDynHeader (g : Engine) :
    engineBits (writeDynHeader g) = engineBits g ++ dynHeaderBits g.unit.isFinal (buildTrees g) := by
  have hbuilt : engineBits (treesBuilt g) = engineBits g := rfl
  have hunit : (treesBuilt g).unit = g.unit := rfl
  have hbtype : natBits 2 2 = [false, true] := rfl
  rw [writeDynHeader_eq, engineBits_putItems, engineBits_putClLens, engineBits_putBits, engineBits_putBits,
    engineBits_putBits, engineBits_putHeader, hbuilt, hunit, hbtype, dynHeaderBits]
  simp only [List.append_assoc]

/-- The end mark is counted too (R245). -/
def eobCounted (g : Engine) : Engine := { g with freqLL := bump 256 g.freqLL }

theorem dflEob_of_count {g : Engine} (h : g.job = .count) :
    dflEob g = { writeDynHeader (eobCounted g) with job := .pack, tokRd := 0, cov := 0 } := by
  rw [dflEob, if_pos h, eobCounted]

/-- After the statistics an engine holds its trees, has written their header, and reads `TOKBUF` again (R245 to
R250). -/
theorem dflEob_count {g : Engine} (h : g.job = .count) :
    dflEob g = { treesBuilt (eobCounted g) with
      job := .pack, tokRd := 0, cov := 0, bitacc := (dflEob g).bitacc, bitcnt := (dflEob g).bitcnt,
      outlen := (dflEob g).outlen, result := { g.result with bytes := (dflEob g).result.bytes } } ∧
    OutputGrew g (dflEob g) ∧
    engineBits (dflEob g) = engineBits g ++ dynHeaderBits g.unit.isFinal (buildTrees (eobCounted g)) := by
  have hbits := engineBits_writeDynHeader (eobCounted g)
  obtain ⟨hsame, bs, hbytes, hlen⟩ := onlyWrote_writeDynHeader (eobCounted g)
  rw [dflEob_of_count h]
  generalize writeDynHeader (eobCounted g) = w at *
  exact ⟨congrArg (fun k : Engine => { k with job := .pack, tokRd := 0, cov := 0 }) hsame, ⟨bs, hbytes, hlen⟩, hbits⟩

theorem buildTrees_eq {g : Engine} (hLL : g.freqLL.length = 286) (hD : g.freqD.length = 30) :
    buildTrees g = (g.tabs.withLL (treeOf (tableLens g.freqLL))).withD (treeOf (tableLens g.freqD)) := by
  have hpadLL := padTo_tableLens (freq := g.freqLL) (by omega) (by omega)
  have hpadD := padTo_tableLens (freq := g.freqD) (by omega) (by omega)
  rw [hLL] at hpadLL
  rw [hD] at hpadD
  rw [buildTrees, hpadLL, hpadD]

/-- The tables of a dynamic block, entry by entry (R246, R248, R208). -/
theorem dynTabs_eq {g : Engine} (hLL : g.freqLL.length = 286) (hD : g.freqD.length = 30) :
    dynTabs g =
      { lenLL := (tableLens g.freqLL).map (BitVec.ofNat 4),
        codeLL := (assignCodes (tableLens g.freqLL)).map (BitVec.ofNat 15),
        lenD := (tableLens g.freqD).map (BitVec.ofNat 4),
        codeD := (assignCodes (tableLens g.freqD)).map (BitVec.ofNat 15),
        lenCL := (clLens (buildTrees g)).map (BitVec.ofNat 3),
        codeCL := (assignCodes (clLens (buildTrees g))).map (BitVec.ofNat 7) } := by
  rw [dynTabs]
  generalize clLens (buildTrees g) = lensCL
  rw [buildTrees_eq hLL hD]
  rfl

/-- `nll` (R247). -/
theorem nllOf_spec {g : Engine} (hLL : g.freqLL.length = 286) (hD : g.freqD.length = 30) :
    257 ≤ nllOf (buildTrees g) ∧ nllOf (buildTrees g) ≤ 286 ∧
      (∀ x, nllOf (buildTrees g) ≤ x → ((buildTrees g).lenLL.map BitVec.toNat).getD x 0 = 0) ∧
      (nllOf (buildTrees g) = 257 ∨ ((buildTrees g).lenLL.map BitVec.toNat).getD (nllOf (buildTrees g) - 1) 0 ≠ 0) := by
  have hlens : (buildTrees g).lenLL.map BitVec.toNat = tableLens g.freqLL := by
    rw [buildTrees_eq hLL hD]
    exact map_toNat_ofNat (tableLens_lt (by omega) (by omega))
  refine max_usedCount_spec (by decide) fun x hx => ?_
  rw [hlens]
  exact tableLens_getD (by omega) (by omega) (hLL ▸ hx)

/-- `nd` (R247). -/
theorem ndOf_spec {g : Engine} (hLL : g.freqLL.length = 286) (hD : g.freqD.length = 30) :
    1 ≤ ndOf (buildTrees g) ∧ ndOf (buildTrees g) ≤ 30 ∧
      (∀ x, ndOf (buildTrees g) ≤ x → ((buildTrees g).lenD.map BitVec.toNat).getD x 0 = 0) ∧
      (ndOf (buildTrees g) = 1 ∨ ((buildTrees g).lenD.map BitVec.toNat).getD (ndOf (buildTrees g) - 1) 0 ≠ 0) := by
  have hlens : (buildTrees g).lenD.map BitVec.toNat = tableLens g.freqD := by
    rw [buildTrees_eq hLL hD]
    exact map_toNat_ofNat (tableLens_lt (by omega) (by omega))
  refine max_usedCount_spec (by decide) fun x hx => ?_
  rw [hlens]
  exact tableLens_getD (by omega) (by omega) (hD ▸ hx)

/-- `ncl` (R248). -/
theorem clCount_spec (lens : List Nat) :
    4 ≤ clCount lens ∧ clCount lens ≤ 19 ∧
      (∀ j, clCount lens ≤ j → j < 19 → lens.getD (clOrder.getD j 0) 0 = 0) ∧
      (clCount lens = 4 ∨ lens.getD (clOrder.getD (clCount lens - 1) 0) 0 ≠ 0) := by
  have hlen : (clOrder.map fun s => lens.getD s 0).length = 19 := by rw [List.length_map]; rfl
  have hget (j : Nat) (hj : j < 19) : (clOrder.map fun s => lens.getD s 0).getD j 0 = lens.getD (clOrder.getD j 0) 0 :=
    (List.getD_eq_getElem _ _ (hlen ▸ hj)).trans
      ((List.getElem_map _).trans (congrArg (lens.getD · 0) (List.getD_eq_getElem clOrder 0 hj).symm))
  obtain ⟨hlo, hhi, hzero, hlast⟩ := max_usedCount_spec (lo := 4) (hi := 19) (by decide) fun x hx =>
    List.getD_eq_default (clOrder.map fun s => lens.getD s 0) 0 (hlen ▸ hx)
  rw [hget _ (by omega)] at hlast
  exact ⟨hlo, hhi, fun j hj hlt => hget j hlt ▸ hzero j hj, hlast⟩

/-- Settles O27: a token is counted in its entries, and the end mark builds the trees and writes their header. -/
theorem tokenStatistics : Obligations.TokenStatistics := by
  intro s g b off len hd hc hg hj hLL hD
  refine ⟨⟨_, _, exec_lit_deflate hd hc hg b, rfl, ?_⟩, fun h1 hoff _ h3 hlen =>
    ⟨_, _, exec_matchTok_deflate hd hc hg h1 hoff h3 hlen, rfl, ?_⟩, ?_⟩
  · rw [dflLit_count hj]
    exact ⟨rfl, fun k hk => bump_getD _ (hLL ▸ hk)⟩
  · rw [dflMatch_count hj]
    exact ⟨rfl, fun k hk => bump_getD _ (hLL ▸ hk), fun k hk => bump_getD _ (hD ▸ hk)⟩
  · have hLL' : (eobCounted g).freqLL.length = 286 := List.length_set.trans hLL
    have hexec := exec_eob_deflate hd hc hg
    obtain ⟨hsame, hgrew, hbits⟩ := dflEob_count hj
    generalize dflEob g = h at *
    have htabs : h.tabs = dynTabs (eobCounted g) := by rw [hsame]; rfl
    obtain ⟨hnllLo, hnllHi, hnllZero, hnllLast⟩ := nllOf_spec hLL' hD
    obtain ⟨hndLo, hndHi, hndZero, hndLast⟩ := ndOf_spec hLL' hD
    obtain ⟨hnclLo, hnclHi, hnclZero, hnclLast⟩ := clCount_spec (clLens (buildTrees (eobCounted g)))
    refine ⟨_, h, nllOf (buildTrees (eobCounted g)), ndOf (buildTrees (eobCounted g)),
      clCount (clLens (buildTrees (eobCounted g))), hexec, rfl, ?_⟩
    rw [htabs]
    exact ⟨hsame, hgrew, dynTabs_eq hLL' hD, hnllLo, hnllHi, hnllZero, hnllLast, hndLo, hndHi, hndZero, hndLast, hnclLo,
      hnclHi, hnclZero, hnclLast, hbits⟩

end Sys2Proof.Proofs


/-! PROOFS. The zlib and GZIP headers (O39, O40) and the trailers (O41) being read. -/

namespace Sys2Proof.Proofs

open Machine Safety Laws

/-! ### A stream header that is checked: a failure, or the body (R283, R288, R383) -/

/-- After the tests of a header: the failure of the first that fails, or the body. -/
def headerTested (o : Option Detail) (s : State) : State := o.elim (beginBody .dflHdr s) (raiseSeq · s)

/-- What the tests of a header lead to, by the first test that fails. -/
def HeaderOutcome (o : Option Detail) (s t : State) : Prop :=
  o.elim (t = { s with phase := .body, want := .dflHdr }) (FailedAs · s t)

theorem headerOutcome_headerTested {s : State} (hb : busy s = true) (hc : s.nextCollect = s.nextCut)
    (o : Option Detail) : HeaderOutcome o s (headerTested o s) := by
  cases o with
  | none => rfl
  | some d => exact raiseSeq_failedAs hb hc d

theorem headerOutcome_none {s t : State} :
    HeaderOutcome none s t ↔ t = { s with phase := .body, want := .dflHdr } := Iff.rfl

/-- One test of a header, before the others. -/
theorem headerOutcome_ite {p : Prop} [Decidable p] {d : Detail} {o : Option Detail} {s t : State} :
    HeaderOutcome (if p then some d else o) s t ↔ if p then FailedAs d s t else HeaderOutcome o s t := by
  split <;> rfl

/-! ### The zlib header (R283) -/

theorem exec_zlibHeader (cmf flg : Byte) (s : State) :
    exec (.zlibHeader cmf flg) s = .next (headerTested (zlibDefect cmf flg (windowBytes s)) s) := by
  rw [exec, execZlibHeader]
  cases zlibDefect cmf flg (windowBytes s) <;> rfl

theorem decode_zlibHdr_short {few : List Byte} (h : few.length < 2) : decode .zlibHdr (bitsOfBytes few) = .short := by
  match few, h with
  | [], _ => rfl
  | [b], _ => simp only [bitsOfBytes, decode, takeByte_bitsOfByte, need_some]; rfl

/-- Settles O39: the meaning takes the first failing test of `zlibDefect`, whose tests are those of R283. -/
theorem zlibHeaderIsChecked : Obligations.ZlibHeaderIsChecked := by
  refine ⟨fun cmf flg s hb hc => ⟨_, exec_zlibHeader cmf flg s, ?_⟩, fun few h => decode_zlibHdr_short h⟩
  have h := headerOutcome_headerTested hb hc (zlibDefect cmf flg (windowBytes s))
  generalize headerTested _ s = t at h ⊢
  simp only [zlibDefect, headerOutcome_ite, headerOutcome_none] at h
  exact h

/-! ### The GZIP header (R288) -/

/-- The tests on the CRC16 of a GZIP header, where `FHCRC` announces it (R288). -/
def gzipCrcDefect (flg : Byte) (crc16 : Option (BitVec 16)) (s : State) : Option Detail :=
  if flg.getLsbD 1 = true ∧ crc16 = none then some .eof
  else if flg.getLsbD 1 = true ∧ crc16 ≠ some (headerCrc16 s) then some .gzipBadHcrc
  else none

theorem exec_gzipHeader (id1 id2 cm flg : Byte) (mtime : Word) (xfl os : Byte) (x n c : Option (List Byte))
    (h : Option (BitVec 16)) (s : State) :
    exec (.gzipHeader id1 id2 cm flg mtime xfl os x n c h) s =
      .next (headerTested ((gzipFixedDefect id1 id2 cm flg).or (gzipCrcDefect flg h s)) s) := by
  rw [exec]
  unfold execGzipHeader
  cases gzipFixedDefect id1 id2 cm flg with
  | some d => rfl
  | none =>
    rw [Option.none_or, gzipCrcDefect]
    cases flg.getLsbD 1 with
    | false => rfl
    | true =>
      cases h with
      | none => rfl
      | some k =>
        simp only [true_and, if_true, reduceCtorEq, if_false, ne_eq, Option.some.injEq, ite_not]
        split <;> rfl

theorem ite_some_or {α : Type} {p : Prop} [Decidable p] {a : α} {o o' : Option α} :
    (if p then some a else o).or o' = if p then some a else o.or o' := by
  split <;> rfl

/-- Settles O40: the tests of the fixed part come before those of the CRC16, and nothing else is looked at. -/
theorem gzipHeaderIsChecked : Obligations.GzipHeaderIsChecked := by
  intro id1 id2 cm flg mtime xfl os x n c h s hb hc
  refine ⟨_, exec_gzipHeader id1 id2 cm flg mtime xfl os x n c h s, ?_⟩
  have ho := headerOutcome_headerTested hb hc ((gzipFixedDefect id1 id2 cm flg).or (gzipCrcDefect flg h s))
  generalize headerTested _ s = t at ho ⊢
  simp only [gzipFixedDefect, ite_some_or, Option.none_or, gzipCrcDefect, headerOutcome_ite, headerOutcome_none] at ho
  exact ho

/-! ### Trailers (R284, R289, R330) -/

theorem exec_zlibTrailer (v : Word) (s : State) :
    exec (.zlibTrailer v) s =
      .next (if v = adlerFin s.adler then { s with want := .trailing } else raiseSeq .zlibAdler s) := rfl

theorem exec_lz4ContentChecksum (v : Word) (s : State) :
    exec (.lz4ContentChecksum v) s =
      .next (if v = xxh32 s.params.xxh s.content then { s with want := .trailing } else raiseSeq .lz4ContentCk s) := rfl

theorem exec_gzipTrailer_badCrc {v : Word} {s : State} (h : v ≠ crcFin s.crc) (isize : Option Word) :
    exec (.gzipTrailer v isize) s = .next (raiseSeq .gzipCrc s) := by
  simp only [exec, execGzipTrailer, if_neg h]

/-- With the right CRC the size decides (R289). -/
theorem exec_gzipTrailer_size {v : Word} {s : State} (h : v = crcFin s.crc) (n : Word) :
    exec (.gzipTrailer v (some n)) s =
      .next (if n.toNat = s.unp.produced.toNat % 2 ^ 32 then { s with want := .trailing }
        else raiseSeq .gzipIsize s) := by
  have hn : n = s.unp.produced.setWidth 32 ↔ n.toNat = s.unp.produced.toNat % 2 ^ 32 := by
    rw [← BitVec.toNat_inj, BitVec.toNat_setWidth]
  simp only [exec, execGzipTrailer, if_pos h, hn]

/-- Settles O41: each trailer is compared once, and the GZIP size after the GZIP CRC. -/
theorem trailersAreCompared : Obligations.TrailersAreCompared := by
  intro v n isize s
  refine ⟨fun h => ?_, fun h => ?_, fun h hn => ?_, fun hb hc =>
    ⟨fun h => ⟨_, ?_, raiseSeq_failedAs hb hc _⟩, fun h => ⟨_, ?_, raiseSeq_failedAs hb hc _⟩,
      fun h => ⟨_, exec_gzipTrailer_badCrc h isize, raiseSeq_failedAs hb hc _⟩,
      fun h hn => ⟨_, ?_, raiseSeq_failedAs hb hc _⟩⟩⟩
  · rw [exec_zlibTrailer, if_pos h]
  · rw [exec_lz4ContentChecksum, if_pos h]
  · rw [exec_gzipTrailer_size h, if_pos hn]
  · rw [exec_zlibTrailer, if_neg h]
  · rw [exec_lz4ContentChecksum, if_neg h]
  · rw [exec_gzipTrailer_size h, if_neg hn]

end Sys2Proof.Proofs


/-! PROOFS. The stream header a compression writes (O54). -/

namespace Sys2Proof.Proofs

open Machine Safety Laws

/-! ### The headers (R281, R317, R318) -/

/-- The zlib header of each window (R281). -/
theorem zlibWrite_eq : ∀ p ∈ [(1, 0x28, 0x91), (2, 0x38, 0x8D), (4, 0x48, 0x89), (8, 0x58, 0x85), (16, 0x68, 0x81),
    (32, 0x78, 0x9C)], zlibWrite p.1 = [BitVec.ofNat 8 p.2.1, BitVec.ofNat 8 p.2.2] := by decide

/-- `BD` holds the block maximum code in bits 6:4 (R318). -/
theorem lz4Bd_eq (k : Nat) : BitVec.ofNat 8 (lz4SizeCode k * 16) =
    if k ≤ 64 then 0x40#8 else if k ≤ 256 then 0x50#8 else if k ≤ 1024 then 0x60#8 else 0x70#8 := by
  unfold lz4SizeCode
  split_ifs <;> rfl

theorem lz4Write_eq (p : XxhPlugin) {k : Nat} {bd : Byte} (h : BitVec.ofNat 8 (lz4SizeCode k * 16) = bd) :
    lz4Write p k = [0x04, 0x22, 0x4D, 0x18, 0x60, bd,
      BitVec.ofNat 8 ((xxh32 p [0x60, bd]).toNat / 256 % 256)] := by
  have hmagic : le32 lz4MagicWord = [0x04, 0x22, 0x4D, 0x18] := by decide
  have hbyte (x : Nat) : BitVec.ofNat 8 (x % 256) = BitVec.ofNat 8 x :=
    BitVec.eq_of_toNat_eq (by simp only [BitVec.toNat_ofNat]; omega)
  rw [hbyte, ← h, lz4Write, hmagic]
  rfl

/-! ### The varint of Snappy (R351) -/

theorem varintValue_eq_foldr (bs : List Byte) :
    bs.foldr (fun b v => b.toNat % 128 + 128 * v) 0 = varintValue bs := by
  induction bs with
  | nil => rfl
  | cons b bs ih => rw [List.foldr_cons, ih, varintValue]

/-- `bs` is the shortest varint of `n`: every byte but the last has its top bit set, and a last byte after others is
not 0. -/
structure ShortestVarint (n : Nat) (bs : List Byte) : Prop where
  nonempty : bs ≠ []
  value : varintValue bs = n
  more : ∀ k, k + 1 < bs.length → 128 ≤ (bs.getD k 0).toNat
  stop : (bs.getD (bs.length - 1) 0).toNat < 128
  shortest : bs.length = 1 ∨ bs.getD (bs.length - 1) 0 ≠ 0

theorem shortestVarint_singleton {n : Nat} (h : n < 128) : ShortestVarint n [BitVec.ofNat 8 n] where
  nonempty := List.cons_ne_nil _ _
  value := by simp only [varintValue, BitVec.toNat_ofNat]; omega
  more k hk := by simp at hk
  stop := by simp; omega
  shortest := .inl rfl

/-- A byte with its top bit set goes before the varint of what is left. -/
theorem shortestVarint_cons {n : Nat} {bs : List Byte} (hn : 128 ≤ n) (h : ShortestVarint (n / 128) bs) :
    ShortestVarint n (BitVec.ofNat 8 (n % 128 + 128) :: bs) := by
  have hbyte : (BitVec.ofNat 8 (n % 128 + 128)).toNat = n % 128 + 128 := by rw [BitVec.toNat_ofNat]; omega
  obtain ⟨b, rest, rfl⟩ := List.exists_cons_of_ne_nil h.nonempty
  refine ⟨List.cons_ne_nil _ _, ?_, fun k hk => ?_, h.stop, .inr ?_⟩
  · rw [varintValue, hbyte, h.value]; omega
  · cases k with
    | zero => rw [List.getD_cons_zero, hbyte]; omega
    | succ k => exact h.more k (Nat.lt_of_succ_lt_succ hk)
  · obtain hone | hne := h.shortest
    · obtain rfl : rest = [] := List.length_eq_zero_iff.mp (Nat.succ.inj hone)
      have hv := h.value
      rintro (h0 : b = 0)
      rw [h0] at hv
      simp [varintValue] at hv
      omega
    · exact hne

theorem varintLoop_shortest {fuel n : Nat} (h : n < 128 ^ (fuel + 1)) : ShortestVarint n (varintLoop fuel n) := by
  induction fuel generalizing n with
  | zero => exact shortestVarint_singleton h
  | succ fuel ih =>
    rw [varintLoop]
    split
    · next hn => exact shortestVarint_cons hn (ih (Nat.div_lt_of_lt_mul (by rwa [← Nat.pow_succ'])))
    · next hn => exact shortestVarint_singleton (Nat.not_le.mp hn)

theorem varint_shortest {n : Nat} (h : n < 2 ^ 32) : ShortestVarint n (varint n) :=
  varintLoop_shortest (h.trans (by decide))

/-! ### The sequencer's turn in the phase `HEADER` (R386, R394) -/

/-- The header `bs` is produced, and the phase is `BODY` (R386, R383). -/
def WroteHeader (bs : List Byte) (s t : State) : Prop := ∃ u, Emits bs s u ∧ t = { u with phase := .body }

/-- A header that can be written is written, unless a Snappy input is too long for its preamble (R386). -/
theorem compressTurn_writes {s : State} {bs : List Byte} (hph : s.phase = .header)
    (hfits : ¬ (codec s = .snappy ∧ s.inEnded = true ∧ 2 ^ 32 ≤ s.incnt.toNat)) (hbs : headerBytes s = some bs) :
    compressTurn s = some (.act { emit bs s with phase := .body }) := by
  simp only [compressTurn, hph, hbs]
  exact if_neg hfits

theorem compressTurn_tooLong {s : State} (hph : s.phase = .header) (hc : codec s = .snappy) (he : s.inEnded = true)
    (hlong : 2 ^ 32 ≤ s.incnt.toNat) : compressTurn s = some (.act (failSession .snpInputTooLong s)) := by
  simp only [compressTurn, hph]
  exact if_pos ⟨hc, he, hlong⟩

/-- The Snappy preamble waits for the end of the input (R394). -/
theorem compressTurn_waits {s : State} (hph : s.phase = .header) (hc : codec s = .snappy) (he : s.inEnded = false) :
    compressTurn s = none := by
  simp [compressTurn, headerBytes, hph, hc, he]

section
variable {s : State} {rest : List Turn} (hag : s.agenda = .agent .sequencer :: rest) (hph : s.phase = .header)
  (hdir : s.dir = .compress)

include hph hdir in
theorem agentTurn_sequencer_compress :
    agentTurn .sequencer { s with agenda := rest } = compressTurn { s with agenda := rest } := by
  simp only [agentTurn, sequencerTurn, busy, hph, phaseBusy, hdir, if_true]

include hag hph hdir

theorem step_header_writes (hfits : ¬ (codec s = .snappy ∧ s.inEnded = true ∧ 2 ^ 32 ≤ s.incnt.toNat))
    {bs : List Byte} (hbs : headerBytes s = some bs) :
    ∃ t, step s = .next t ∧ WroteHeader bs { s with agenda := rest } t :=
  ⟨_, step_of_act hag (turnFetch_of_some ((agentTurn_sequencer_compress hph hdir).trans
    (compressTurn_writes (s := { s with agenda := rest }) hph hfits hbs))), _, emit_emits bs _, rfl⟩

theorem step_header_tooLong (hc : codec s = .snappy) (he : s.inEnded = true) (hlong : 2 ^ 32 ≤ s.incnt.toNat) :
    step s = .next (failSession .snpInputTooLong { s with agenda := rest }) :=
  step_of_act hag (turnFetch_of_some ((agentTurn_sequencer_compress hph hdir).trans
    (compressTurn_tooLong (s := { s with agenda := rest }) hph hc he hlong)))

theorem step_header_waits (hc : codec s = .snappy) (he : s.inEnded = false) :
    step s = .next { s with agenda := rest } :=
  step_of_act hag (turnFetch_of_none ((agentTurn_sequencer_compress hph hdir).trans
    (compressTurn_waits (s := { s with agenda := rest }) hph hc he)))

end

/-- The four header checks of R317, with the intended `XXH32`. -/
theorem lz4HeaderChecks_intended :
    [0x40, 0x50, 0x60, 0x70].map (fun bd => (xxh32 .intended [0x60, bd]).toNat / 256 % 256) =
      [0x82, 0xFB, 0x51, 0x73] := by decide +kernel

/-- The turn of a Snappy compression: it waits, fails, or writes the shortest varint of `INCNT` (R351, R394). -/
theorem step_header_snappy {s : State} {rest : List Turn} (hag : s.agenda = .agent .sequencer :: rest)
    (hph : s.phase = .header) (hdir : s.dir = .compress) (hc : codec s = .snappy) :
    ∃ t, step s = .next t ∧
      if s.inEnded = false then t = { s with agenda := rest }
      else if 2 ^ 32 ≤ s.incnt.toNat then FailedAs .snpInputTooLong { s with agenda := rest } t
      else ∃ bs, WroteHeader bs { s with agenda := rest } t ∧ ShortestVarint s.incnt.toNat bs := by
  split_ifs with he hlong
  · exact ⟨_, step_header_waits hag hph hdir hc he, rfl⟩
  · refine ⟨_, step_header_tooLong hag hph hdir hc (Bool.eq_true_of_not_eq_false he) hlong, failSession_failedAs ?_ _⟩
    simp only [busy, hph, phaseBusy]
  · have hbs : headerBytes s = some (varint s.incnt.toNat) := by
      simp only [headerBytes, hc, Bool.eq_true_of_not_eq_false he, if_true]
    obtain ⟨t, hstep, hw⟩ := step_header_writes hag hph hdir (fun h => hlong h.2.2) hbs
    exact ⟨t, hstep, _, hw, varint_shortest (Nat.not_le.mp hlong)⟩

/-- Settles O54: the turn of each codec writes its `headerBytes`, and Snappy's waits or fails where it has none. -/
theorem compressionWritesItsHeader : Obligations.CompressionWritesItsHeader := by
  refine ⟨fun s rest hag hph hdir => ?_, lz4HeaderChecks_intended⟩
  have hwrites {bs : List Byte} (hsnp : codec s ≠ .snappy) (hbs : headerBytes s = some bs) :=
    step_header_writes hag hph hdir (fun h => hsnp h.1) hbs
  cases hc : codec s with
  | snappy =>
    obtain ⟨t, hstep, ht⟩ := step_header_snappy hag hph hdir hc
    refine ⟨t, hstep, nofun, nofun, nofun, nofun, fun _ => ?_⟩
    split_ifs at ht ⊢
    · exact ht
    · exact ht
    · obtain ⟨bs, hw, hv⟩ := ht
      refine ⟨bs, hw, hv.nonempty, ?_, hv.more, hv.stop, hv.shortest⟩
      rw [varintValue_eq_foldr, hv.value]
  | deflate =>
    obtain ⟨t, hstep, hw⟩ := hwrites (bs := []) (by simp [hc]) (by rw [headerBytes, hc])
    exact ⟨t, hstep, fun _ => hw, nofun, nofun, nofun, nofun⟩
  | zlib =>
    obtain ⟨t, hstep, hw⟩ := hwrites (by simp [hc]) (by rw [headerBytes, hc])
    refine ⟨t, hstep, nofun, fun _ w a b hmem hk => ?_, nofun, nofun, nofun⟩
    rw [hk, zlibWrite_eq _ hmem] at hw
    exact hw
  | gzip =>
    obtain ⟨t, hstep, hw⟩ := hwrites (by simp [hc]) (by rw [headerBytes, hc])
    exact ⟨t, hstep, nofun, nofun, fun _ => hw, nofun, nofun⟩
  | lz4 =>
    obtain ⟨t, hstep, hw⟩ := hwrites (by simp [hc]) (by rw [headerBytes, hc])
    refine ⟨t, hstep, nofun, nofun, nofun, fun _ _ _ => ?_, nofun⟩
    rw [lz4Write_eq _ (lz4Bd_eq _)] at hw
    exact hw
  | zstd | reserved =>
    obtain ⟨t, hstep, -⟩ := hwrites (bs := []) (by simp [hc]) (by rw [headerBytes, hc])
    exact ⟨t, hstep, nofun, nofun, nofun, nofun, nofun⟩

end Sys2Proof.Proofs


/-! PROOFS. The LZ4 and Snappy packers: what a literal and a match do (O28), and the end of a block (O29). -/

namespace Sys2Proof.Proofs

open Machine Safety Laws

/-! ### Reading out of a filled buffer (R14, R46) -/

/-- Bytes that have all been written are read as a string. -/
theorem exists_readN {m : Memory} {a n : Nat} (hm : Memory.wf m = true)
    (h : ∀ k, k < n → (m.read (a + k)).isSome = true) :
    ∃ bs, m.readN a n = some bs ∧ bs.length = n ∧ ∀ k, k < n → bs[k]? = m.read (a + k) := by
  obtain ⟨bs, hlen, hread⟩ : ∃ bs : List Byte, bs.length = n ∧ ∀ k, k < n → bs[k]? = m.read (a + k) := by
    refine ⟨List.ofFn fun k : Fin n => (m.read (a + k)).get (h k k.isLt), List.length_ofFn, fun k hk => ?_⟩
    rw [List.getElem?_eq_getElem (by rwa [List.length_ofFn]), List.getElem_ofFn, Option.some_get]
  subst hlen
  exact ⟨bs, readN_of_read hm fun k hk => (hread k hk).symm, rfl, hread⟩

section
variable {g : Engine} (hf : BlockFilled g) (hm : Memory.wf g.blkbuf = true)
include hf hm

/-- The pending literals of a filled block are there (R315, R355). -/
theorem pendingLits_spec (hrun : g.litrun.toNat ≤ g.cov.toNat) (hcov : g.cov.toNat ≤ g.blklen.toNat) :
    ∃ lits, pendingLits g = some lits ∧ lits.length = g.litrun.toNat ∧
      ∀ k, k < g.litrun.toNat → lits[k]? = g.blkbuf.read (g.cov.toNat - g.litrun.toNat + k) :=
  exists_readN hm fun _ _ => hf _ (by omega)

/-- The bytes of a filled block are there (R46). -/
theorem blockData_spec :
    ∃ raw, blockData g = some raw ∧ raw.length = g.blklen.toNat ∧
      ∀ k, k < g.blklen.toNat → raw[k]? = g.blkbuf.read k := by
  obtain ⟨raw, hraw, hlen, hread⟩ :=
    exists_readN (a := 0) (n := g.blklen.toNat) hm fun _ hk => hf _ (by omega)
  exact ⟨raw, hraw, hlen, fun k hk => by rw [hread k hk, Nat.zero_add]⟩

end

/-! ### Snappy elements (R121, R122, R353, R354) -/

/-- How many length bytes a literal takes: none below 60, else the fewest that hold it (R353). -/
theorem snpExtNeed_spec {m : Nat} (h : m < 2 ^ 32) :
    (m < 60 ∧ snpExtNeed m = 0) ∨
    (60 ≤ m ∧ 1 ≤ snpExtNeed m ∧ snpExtNeed m ≤ 4 ∧ m < 256 ^ snpExtNeed m ∧
      (snpExtNeed m = 1 ∨ 256 ^ (snpExtNeed m - 1) ≤ m)) := by
  unfold snpExtNeed
  split_ifs <;> omega

/-- A literal is read by the value in its tag and the length bytes the value announces (R122). -/
theorem decode_snpLiteral {v room : Nat} {ext lits : List Byte} (hv : v < 64)
    (hext : ext.length = if v < 60 then 0 else v - 59)
    (hlit : (if v < 60 then v else leNat ext) + 1 = lits.length) (hroom : lits.length ≤ room) (tail : List Byte) :
    decode (.snpTag room) (bitsOfBytes (BitVec.ofNat 8 (v * 4) :: (ext ++ lits) ++ tail)) =
      .ok (.snpLiteral (BitVec.ofNat 6 v) ext lits) (bitsOfBytes tail) := by
  have hnat : (BitVec.ofNat 6 v).toNat = v := by rw [BitVec.toNat_ofNat, Nat.mod_eq_of_lt hv]
  rw [← hnat] at hext hlit
  have hne : lits ≠ [] := List.ne_nil_of_length_pos (by omega)
  have hr : room < snpLitLen (BitVec.ofNat 6 v) ext ↔ lits = [] :=
    iff_of_false (Nat.not_lt.mpr (hlit.trans_le hroom)) hne
  have h := decodeTag_literal (bitsOfBytes tail) hext (.inr hlit.symm) hr
  rwa [hnat, ← bitsOfBytes_append] at h

/-- `SNP.LITERAL` writes the one element that gives the literals, in its shortest form (R353). -/
theorem snpLiteralForm_snpLiteralBytes {lits : List Byte} {m : Nat} (hlen : lits.length = m + 1) (hm : m < 2 ^ 32) :
    SnpLiteralForm (snpLiteralBytes lits) lits := by
  intro room tail hroom
  rw [snpLiteralBytes, hlen, Nat.add_sub_cancel]
  obtain ⟨h60, hk⟩ | ⟨h60, hk1, hk4, hlt, hshort⟩ := snpExtNeed_spec hm
  · refine ⟨BitVec.ofNat 6 m, [], ?_, ?_⟩
    · rw [hk, if_pos rfl]
      exact decode_snpLiteral (by omega) (by rw [if_pos h60]; rfl) (by rw [if_pos h60, hlen]) hroom tail
    · rw [if_pos (by omega), BitVec.toNat_ofNat]
      exact ⟨by omega, rfl⟩
  · have hval : leNat (leBytes (snpExtNeed m) m) = m := by rw [leNat_leBytes, Nat.mod_eq_of_lt hlt]
    refine ⟨BitVec.ofNat 6 (59 + snpExtNeed m), leBytes (snpExtNeed m) m, ?_, ?_⟩
    · rw [if_neg (Nat.ne_of_gt hk1)]
      refine decode_snpLiteral (by omega) ?_ ?_ hroom tail
      · rw [if_neg (by omega), leBytes_length]; omega
      · rw [if_neg (by omega), hval, hlen]
    · rw [if_neg (by omega), leBytes_length, hval, BitVec.toNat_ofNat]
      exact ⟨by omega, rfl, hshort⟩

/-- `SNP.COPY` writes the copy element of the form it chooses (R354). -/
theorem snpCopyForm_snpCopyBytes {off len : Nat} (hoff : off < 2 ^ 32) (h1 : 1 ≤ len) (h64 : len ≤ 64) :
    SnpCopyForm (snpCopyBytes off len) off len := by
  intro room tail
  have hoff4 : (BitVec.ofNat 32 off).toNat = off := by rw [BitVec.toNat_ofNat, Nat.mod_eq_of_lt hoff]
  have hlen6 : (BitVec.ofNat 6 (len - 1)).toNat = len - 1 := by rw [BitVec.toNat_ofNat]; omega
  rw [bitsOfBytes_append, snpCopyBytes, decode]
  split_ifs with hshort hmid
  · have hlen3 : (BitVec.ofNat 3 (len - 4)).toNat = len - 4 := by rw [BitVec.toNat_ofNat]; omega
    have hoff1 : (BitVec.ofNat 11 off).toNat = off := by rw [BitVec.toNat_ofNat]; omega
    have h := decodeTag_copy1 room (BitVec.ofNat 3 (len - 4)) (BitVec.ofNat 11 off) (bitsOfBytes tail)
    rwa [encode, hlen3, hoff1] at h
  · have hoff2 : (BitVec.ofNat 16 off).toNat = off := by rw [BitVec.toNat_ofNat]; omega
    have h := decodeTag_copy2 room (BitVec.ofNat 6 (len - 1)) (BitVec.ofNat 16 off) (bitsOfBytes tail)
    rwa [encode, hlen6, hoff2] at h
  · have h := decodeTag_copy4 room (BitVec.ofNat 6 (len - 1)) (BitVec.ofNat 32 off) (bitsOfBytes tail)
    rwa [encode, hlen6, hoff4] at h

/-- What Snappy writes for the pending literals: one element, if there are any (R355). -/
def snpPending (lits : List Byte) : List Byte := if lits = [] then [] else snpLiteralBytes lits

theorem snpPending_form {lits : List Byte} (hlen : lits.length ≤ 2 ^ 32) :
    (lits = [] → snpPending lits = []) ∧ (lits ≠ [] → SnpLiteralForm (snpPending lits) lits) := by
  refine ⟨fun h => if_pos h, fun hne => ?_⟩
  have hpos := List.length_pos_iff.mpr hne
  rw [snpPending, if_neg hne]
  exact snpLiteralForm_snpLiteralBytes (m := lits.length - 1) (by omega) (by omega)

/-! ### What the packers do (R315, R319, R355) -/

theorem putBytes_nil (g : Engine) : putBytes [] g = g := by
  simp [putBytes]

theorem putBytes_append (as bs : List Byte) (g : Engine) : putBytes bs (putBytes as g) = putBytes (as ++ bs) g := by
  simp [putBytes, BitVec.ofNat_add, BitVec.add_assoc]

theorem snpFlush_eq {g : Engine} {lits : List Byte} (h : pendingLits g = some lits) :
    snpFlush g = some (putBytes (snpPending lits) g) := by
  rw [snpFlush, h, snpPending]
  dsimp only
  split_ifs
  · rw [putBytes_nil]
  · rfl

/-- An engine that has written the bytes of a match of `len` bytes (R315, R355). -/
def matchPacked (bs : List Byte) (len : Nat) (g : Engine) : Engine :=
  { putBytes bs g with litrun := 0, cov := g.cov + BitVec.ofNat 23 len }

theorem lz4Match_eq {g : Engine} {lits : List Byte} (h : pendingLits g = some lits) (off len : Nat) :
    lz4Match off len g = some (matchPacked (lz4SeqBytes lits (some (off, len - 4))) len g) := by
  rw [lz4Match, h]; rfl

theorem snpMatch_eq {g : Engine} {lits : List Byte} (h : pendingLits g = some lits) (off len : Nat) :
    snpMatch off len g = some (matchPacked (snpPending lits ++ snpCopyBytes off len) len g) := by
  rw [snpMatch, snpFlush_eq h, matchPacked, ← putBytes_append]; rfl

/-- The bytes of a packed LZ4 block: what was packed, or the block itself where that is no longer (R319). -/
def lz4BlockBytes (packed raw : List Byte) : List Byte :=
  if packed.length < raw.length then leBytes 4 packed.length ++ packed
  else leBytes 4 (2147483648 + raw.length) ++ raw

/-- An engine whose unit is complete, with the result's bytes and `OUTLEN` (R391). -/
def blockPacked (bs : List Byte) (n : Word) (g : Engine) : Engine :=
  finishEngine { g with outlen := n, result := { g.result with bytes := bs } }

/-- A result begun anew holds only the bytes put, and `OUTLEN` counts them (R319). -/
theorem finishEngine_putBytes_anew (bs : List Byte) (g : Engine) :
    finishEngine (putBytes bs { g with outlen := 0, result := { g.result with bytes := [] } }) =
      blockPacked bs (BitVec.ofNat 32 bs.length) g :=
  congrArg (blockPacked bs · g) (BitVec.zero_add _)

theorem lz4Eob_eq {g : Engine} {lits raw : List Byte} (h : pendingLits g = some lits) (hraw : blockData g = some raw)
    (hlen : raw.length = g.blklen.toNat) :
    lz4Eob g = some (blockPacked (lz4BlockBytes (g.result.bytes ++ lz4SeqBytes lits none) raw)
      (BitVec.ofNat 32 (lz4BlockBytes (g.result.bytes ++ lz4SeqBytes lits none) raw).length) g) := by
  rw [blockData] at hraw
  rw [lz4Eob, h, hraw, lz4BlockBytes, ← hlen]
  dsimp only
  split_ifs <;> rw [finishEngine_putBytes_anew]

theorem snpEob_eq {g : Engine} {lits : List Byte} (h : pendingLits g = some lits) :
    snpEob g = some (blockPacked (g.result.bytes ++ snpPending lits)
      (g.outlen + BitVec.ofNat 32 (snpPending lits).length) g) := by
  rw [snpEob, snpFlush_eq h]; rfl

/-! ### The tokens of an LZ4 or Snappy compression (R92, R182) -/

theorem packer_of_lz4 {s : State} (hc : codec s = .lz4) : packer s = .lz4 := by rw [packer, hc]

theorem packer_of_snappy {s : State} (hc : codec s = .snappy) : packer s = .snp := by rw [packer, hc]

section
variable {s : State} {g : Engine} (hd : s.dir = .compress) (hg : s.engines[s.actor]? = some g)
include hd hg

/-- A literal is gathered (R315, R355). -/
theorem exec_lit_gathers (hc : codec s = .lz4 ∨ codec s = .snappy) (b : Byte) :
    exec (.lit b) s = .next (setEngine s.actor (gatherLit g) s) := by
  have hp : packer s = .lz4 ∨ packer s = .snp := hc.imp packer_of_lz4 packer_of_snappy
  obtain hp | hp := hp <;> simp only [exec, execLit, hd, packLit, withEngine, hg, hp, storeEngine, ofRead]

section
variable {off : BitVec 17} {len : BitVec 16} (hr : matchInRange (matchLimits s) off.toNat len.toNat = true)
include hr

theorem exec_matchTok_lz4 (hc : codec s = .lz4) :
    exec (.matchTok off len) s = storeEngine s (lz4Match off.toNat len.toNat g) := by
  simp only [exec, execMatchTok, hd, packMatch, withEngine, hg, packer_of_lz4 hc, hr, if_true]

theorem exec_matchTok_snappy (hc : codec s = .snappy) :
    exec (.matchTok off len) s = storeEngine s (snpMatch off.toNat len.toNat g) := by
  simp only [exec, execMatchTok, hd, packMatch, withEngine, hg, packer_of_snappy hc, hr, if_true]

end

theorem exec_eob_lz4 (hc : codec s = .lz4) : exec .eob s = storeEngine s (lz4Eob g) := by
  simp only [exec, execEob, hd, packEob, withEngine, hg, packer_of_lz4 hc]

theorem exec_eob_snappy (hc : codec s = .snappy) : exec .eob s = storeEngine s (snpEob g) := by
  simp only [exec, execEob, hd, packEob, withEngine, hg, packer_of_snappy hc]

end

/-- The match lengths of Snappy are those of its copy elements (R175, R354). -/
theorem snappy_match_len {s : State} (hc : codec s = .snappy) {off len : Nat}
    (hr : matchInRange (matchLimits s) off len = true) : 1 ≤ len ∧ len ≤ 64 := by
  rw [matchLimits, hc] at hr
  obtain ⟨-, -, hmin, hmax⟩ := of_decide_eq_true hr
  exact ⟨Nat.le_trans (Nat.le_add_left 1 3) hmin, hmax⟩

/-- The bytes a packer writes for a match after the literals `lits` (R315, R355). -/
def MatchBytes (c : Codec) (lits bs : List Byte) (off len : Nat) : Prop :=
  (c = .lz4 → bs = lz4SeqBytes lits (some (off, len - 4))) ∧
  (c = .snappy → bs = snpPending lits ++ snpCopyBytes off len)

theorem exec_matchTok_packs {s : State} {g : Engine} {off : BitVec 17} {len : BitVec 16} {lits : List Byte}
    (hd : s.dir = .compress) (hc : codec s = .lz4 ∨ codec s = .snappy) (hg : s.engines[s.actor]? = some g)
    (hp : pendingLits g = some lits) (hr : matchInRange (matchLimits s) off.toNat len.toNat = true) :
    ∃ bs, exec (.matchTok off len) s = .next (setEngine s.actor (matchPacked bs len.toNat g) s) ∧
      MatchBytes (codec s) lits bs off.toNat len.toNat := by
  obtain hc | hc := hc <;> rw [hc]
  · exact ⟨_, by rw [exec_matchTok_lz4 hd hg hr hc, lz4Match_eq hp]; rfl, fun _ => rfl, nofun⟩
  · exact ⟨_, by rw [exec_matchTok_snappy hd hg hr hc, snpMatch_eq hp]; rfl, nofun, fun _ => rfl⟩

/-- Settles O28: a literal is gathered; a match writes its packer's bytes after those of the pending literals. -/
theorem bytePackersWriteElements : Obligations.BytePackersWriteElements := by
  intro s g b off len hd hc hg
  refine ⟨exec_lit_gathers hd hg hc b, fun hf hm hrun hcov hr => ?_⟩
  obtain ⟨lits, hp, hlen, hread⟩ := pendingLits_spec hf hm hrun hcov
  obtain ⟨bs, hexec, hlz4, hsnp⟩ := exec_matchTok_packs hd hc hg hp hr
  refine ⟨_, matchPacked bs len.toNat g, lits, hexec, rfl, hlen, hread, fun h => ?_, fun h => ?_, ⟨bs, rfl, rfl⟩,
    rfl, rfl, rfl⟩
  · rw [← hlz4 h]; rfl
  · obtain ⟨hnone, hsome⟩ := snpPending_form (lits := lits) (by omega)
    obtain ⟨h1, h64⟩ := snappy_match_len h hr
    refine ⟨snpPending lits, snpCopyBytes off.toNat len.toNat, ?_, hnone, hsome,
      snpCopyForm_snpCopyBytes (by omega) h1 h64⟩
    rw [List.append_assoc, ← hsnp h]; rfl

/-- The result of a block's end and its length (R319, R355). -/
def EndBytes (c : Codec) (g : Engine) (lits raw bs : List Byte) (n : Word) : Prop :=
  (c = .lz4 → bs = lz4BlockBytes (g.result.bytes ++ lz4SeqBytes lits none) raw ∧ n = BitVec.ofNat 32 bs.length) ∧
  (c = .snappy → bs = g.result.bytes ++ snpPending lits ∧ n = g.outlen + BitVec.ofNat 32 (snpPending lits).length)

theorem exec_eob_packs {s : State} {g : Engine} {lits raw : List Byte} (hd : s.dir = .compress)
    (hc : codec s = .lz4 ∨ codec s = .snappy) (hg : s.engines[s.actor]? = some g) (hp : pendingLits g = some lits)
    (hraw : blockData g = some raw) (hlen : raw.length = g.blklen.toNat) :
    ∃ bs n, exec .eob s = .next (setEngine s.actor (blockPacked bs n g) s) ∧ EndBytes (codec s) g lits raw bs n := by
  obtain hc | hc := hc <;> rw [hc]
  · exact ⟨_, _, by rw [exec_eob_lz4 hd hg hc, lz4Eob_eq hp hraw hlen]; rfl, fun _ => ⟨rfl, rfl⟩, nofun⟩
  · exact ⟨_, _, by rw [exec_eob_snappy hd hg hc, snpEob_eq hp]; rfl, nofun, fun _ => ⟨rfl, rfl⟩⟩

/-- Settles O29: the packer's last bytes are written and the unit is complete; LZ4 chooses between what was packed and
the block itself. -/
theorem byteBlocksEnd : Obligations.ByteBlocksEnd := by
  intro s g hd hc hg hf hm hrun hcov
  obtain ⟨lits, hp, hlen, hread⟩ := pendingLits_spec hf hm hrun hcov
  obtain ⟨raw, hraw, hrlen, hrread⟩ := blockData_spec hf hm
  obtain ⟨bs, n, hexec, hlz4, hsnp⟩ := exec_eob_packs hd hc hg hp hraw hrlen
  refine ⟨_, blockPacked bs n g, lits, raw, hexec, rfl, rfl, hlen, hread, hrlen, hrread, fun h => ?_, fun h => ?_,
    fun h => (hlz4 h).2, fun h => ⟨snpPending lits, hsnp h⟩, rfl, rfl, rfl, rfl, rfl, rfl, rfl⟩
  · rw [← hrlen]
    exact (hlz4 h).1
  · exact ⟨snpPending lits, (hsnp h).1, snpPending_form (by omega)⟩

end Sys2Proof.Proofs


/-! PROOFS. The LZ4 frame header (O42) and the data blocks (O43) being read. -/

namespace Sys2Proof.Proofs

open Machine Safety Laws

/-! ### The magic (R115, R321) -/

/-- The skippable magics are sixteen words in a row (R115). -/
theorem lz4Skip_iff (m : Word) :
    m.toNat / 16 = lz4SkipWord.toNat / 16 ↔ 0x184D2A50 ≤ m.toNat ∧ m.toNat ≤ 0x184D2A5F := by
  rw [show lz4SkipWord.toNat = 0x184D2A50 from rfl]
  omega

theorem decode_lz4Magic_word (m : Word) (rest : List Byte) :
    decode .lz4Magic (bitsOfBytes (leBytes 4 m.toNat ++ rest)) =
      if m = 0x184D2204 then .ok .lz4Magic (bitsOfBytes rest)
      else if 0x184D2A50 ≤ m.toNat ∧ m.toNat ≤ 0x184D2A5F then
        .ok (.lz4MagicSkippable (m.setWidth 4)) (bitsOfBytes rest)
      else if m = 0x184C2102 then .bad .lz4Skippable else .bad .lz4BadMagic := by
  simp only [← lz4Skip_iff]
  rw [bitsOfBytes_append, decode, decodeMagic, takeLeBits_leBytes (by decide), need_some]
  rfl

theorem decode_lz4Magic_short {few : List Byte} (h : few.length < 4) :
    decode .lz4Magic (bitsOfBytes few) = .short := by
  have hnone := (took_takeLeBits 32 4 (bitsOfBytes few)).eq_none (by rw [bitsOfBytes_length]; omega)
  rw [decode, decodeMagic, hnone]
  rfl

/-! ### The descriptor (R322, R323) -/

/-- An outcome that a test decides, proved for each answer of the test. -/
theorem exists_and_ite {α : Type} {p : Prop} [Decidable p] {A P Q : α → Prop} (hp : p → ∃ t, A t ∧ P t)
    (hn : ¬ p → ∃ t, A t ∧ Q t) : ∃ t, A t ∧ if p then P t else Q t := by
  split_ifs with h
  · exact hp h
  · exact hn h

/-- `FLG`, `BLKMAX` and `DECLARED` as the descriptor sets them (R322). -/
def descHeld (flg b : Byte) (cs : Option (BitVec 64)) (s : State) : State :=
  { s with lz4flg := flg, unp := { s.unp with blkmax := BitVec.ofNat 23 (lz4MaxSize (b.toNat / 16 % 8)),
                                              declared := cs.getD s.unp.declared } }

/-- What the descriptor has set is no part of what a failure leaves (R440). -/
theorem failedAs_of_descHeld {d : Detail} {s t : State} {flg b : Byte} {cs : Option (BitVec 64)}
    (h : FailedAs d (descHeld flg b cs s) t) : FailedAs d s t := h

theorem lz4MaxSize_toNat {k : Nat} (h4 : 4 ≤ k) (h8 : k < 8) :
    (BitVec.ofNat 23 (lz4MaxSize k)).toNat =
      if k = 4 then 65536 else if k = 5 then 262144 else if k = 6 then 1048576 else 4194304 := by
  interval_cases k <;> rfl

/-- The header check is the second byte of the checksum (R115). -/
theorem ne_lz4HeaderCheck_iff (c : Byte) (s : State) :
    c ≠ lz4HeaderCheck s ↔
      c.toNat ≠ (xxh32 s.params.xxh ((s.strm.take (s.unp.cur.toNat - 1)).drop 4)).toNat / 256 % 256 := by
  rw [ne_eq, ← BitVec.toNat_inj, lz4HeaderCheck, BitVec.toNat_ofNat]

section
variable {flg : Byte} (cs : Option (BitVec 64)) (di : Option Word) (s : State)

theorem exec_lz4Descriptor_badFlg {d : Detail} (h : lz4FlgDefect flg = some d) (bd hc : Option Byte) :
    exec (.lz4Descriptor flg bd cs di hc) s = .next (raiseSeq d s) := by
  simp only [exec, execLz4Descriptor, h]

variable (hflg : lz4FlgDefect flg = none)
include hflg

theorem exec_lz4Descriptor_noBd (hc : Option Byte) :
    exec (.lz4Descriptor flg none cs di hc) s = .next (raiseSeq .eof s) := by
  simp only [exec, execLz4Descriptor, hflg]

theorem exec_lz4Descriptor_badBd {b : Byte} {d : Detail} (h : lz4BdDefect b = some d) (hc : Option Byte) :
    exec (.lz4Descriptor flg (some b) cs di hc) s = .next (raiseSeq d s) := by
  simp only [exec, execLz4Descriptor, hflg, h]

variable {b : Byte} (hbd : lz4BdDefect b = none)
include hbd

theorem exec_lz4Descriptor_noHc :
    exec (.lz4Descriptor flg (some b) cs di none) s = .next (raiseSeq .eof (descHeld flg b cs s)) := by
  simp only [exec, execLz4Descriptor, hflg, hbd, descHeld]

/-- With all its parts there the descriptor makes its last three tests (R322, R323). -/
theorem exec_lz4Descriptor_whole (c : Byte) :
    exec (.lz4Descriptor flg (some b) cs di (some c)) s = .next
      (if c.toNat ≠ (xxh32 s.params.xxh ((s.strm.take (s.unp.cur.toNat - 1)).drop 4)).toNat / 256 % 256 then
        raiseSeq .lz4BadHc (descHeld flg b cs s)
      else if flg.getLsbD 0 = true then raiseSeq .lz4Dictid (descHeld flg b cs s)
      else if flg.getLsbD 5 = false then raiseSeq .lz4Linked (descHeld flg b cs s)
      else { descHeld flg b cs s with phase := .body, want := .lz4Blk }) := by
  simp only [exec, execLz4Descriptor, hflg, hbd, lz4DescEnd, ne_lz4HeaderCheck_iff, descHeld]

end

/-- Settles O42: the magic is one word; the descriptor's tests are taken one by one, each before what comes after it. -/
theorem lz4FrameHeaderIsChecked : Obligations.Lz4FrameHeaderIsChecked := by
  refine ⟨decode_lz4Magic_word, fun few h => decode_lz4Magic_short h, fun s flg bd hc cs di => ⟨rfl, fun hb hn => ?_⟩⟩
  have hraise (d : Detail) : FailedAs d s (raiseSeq d s) := raiseSeq_failedAs hb hn d
  refine exists_and_ite (fun hver => ⟨_, exec_lz4Descriptor_badFlg cs di s (if_pos hver) bd hc, hraise _⟩)
    fun hver => ?_
  refine exists_and_ite (fun hres => ⟨_, exec_lz4Descriptor_badFlg cs di s ((if_neg hver).trans (if_pos hres)) bd hc,
    hraise _⟩) fun hres => ?_
  have hflg : lz4FlgDefect flg = none := (if_neg hver).trans (if_neg hres)
  cases bd with
  | none => exact ⟨_, exec_lz4Descriptor_noBd cs di s hflg hc, hraise _⟩
  | some b =>
    refine exists_and_ite (fun hres => ⟨_, exec_lz4Descriptor_badBd cs di s hflg (if_pos hres) hc, hraise _⟩)
      fun hres => ?_
    refine exists_and_ite (fun hmax => ⟨_, exec_lz4Descriptor_badBd cs di s hflg ((if_neg hres).trans (if_pos hmax)) hc,
      hraise _⟩) fun hmax => ?_
    have hbd : lz4BdDefect b = none := (if_neg hres).trans (if_neg hmax)
    have hheld (d : Detail) : FailedAs d s (raiseSeq d (descHeld flg b cs s)) :=
      failedAs_of_descHeld (raiseSeq_failedAs (s := descHeld flg b cs s) hb hn d)
    cases hc with
    | none => exact ⟨_, exec_lz4Descriptor_noHc cs di s hflg hbd, hheld _⟩
    | some c =>
      refine ⟨_, exec_lz4Descriptor_whole cs di s hflg hbd c, ?_⟩
      rw [← lz4MaxSize_toNat (Nat.not_lt.mp hmax) (Nat.mod_lt _ (by decide))]
      dsimp only
      split_ifs
      · exact hheld _
      · exact hheld _
      · exact hheld _
      · exact ⟨rfl, rfl, rfl⟩

/-! ### A failure that waits for the blocks before it (R399) -/

/-- A failure that is held is the sequencer's next step, once every block is collected (R399). -/
theorem decompressTurn_deferred {s : State} {d : Detail} (hcan : ¬ (s.cancelReq = true ∧ hasUnits s = false))
    (hdef : s.deferred = some d) :
    decompressTurn s = if s.nextCollect = s.nextCut then some (.act (failSession d s)) else none := by
  rw [decompressTurn, if_neg hcan, hdef]

theorem step_deferred {s : State} {rest : List Turn} {d : Detail} (hag : s.agenda = .agent .sequencer :: rest)
    (hb : busy s = true) (hdir : s.dir = .decompress) (hcan : ¬ (s.cancelReq = true ∧ hasUnits s = false))
    (hdef : s.deferred = some d) :
    step s = .next (if s.nextCollect = s.nextCut then failSession d { s with agenda := rest }
      else { s with agenda := rest }) := by
  have hturn : agentTurn .sequencer { s with agenda := rest } =
      if s.nextCollect = s.nextCut then some (.act (failSession d { s with agenda := rest })) else none :=
    (agentTurn_sequencer (s := { s with agenda := rest }) hb hdir).trans
      (decompressTurn_deferred (s := { s with agenda := rest }) hcan hdef)
  split_ifs with hc
  · rw [if_pos hc] at hturn
    exact step_of_act hag (turnFetch_of_some hturn)
  · rw [if_neg hc] at hturn
    exact step_of_act hag (turnFetch_of_none hturn)

/-! ### Data blocks (R324, R398, R486) -/

/-- The unit a data block is queued as (R398; log entries 11 and 28). -/
def blockWaiting (stored : Bool) (data : List Byte) (ck : Option Word) (s : State) : Waiting :=
  { bytes := data, isFinal := false, stored := stored,
    start := s.unp.cur - BitVec.ofNat 64 (data.length + if ck = none then 0 else 4),
    ck := if s.lz4flg.getLsbD 4 then ck else none }

theorem exec_lz4Block (stored : Bool) (size : BitVec 31) (data : List Byte) (ck : Option Word) (s : State) :
    exec (if stored then .lz4BlockStored size data ck else .lz4BlockCompressed size data ck) s =
      lz4Block stored size data ck s := by
  cases stored <;> rfl

section
variable {stored : Bool} {size : BitVec 31} {data : List Byte} {ck : Option Word} {s : State}

theorem lz4Block_tooBig (h : s.unp.blkmax.toNat < size.toNat) :
    lz4Block stored size data ck s = .next (raiseSeq .lz4BlockTooBig s) := if_pos h

/-- A block within the maximum, whole with its checksum, is queued unless its index is used up (R324, R486). -/
theorem lz4Block_whole (h : size.toNat ≤ s.unp.blkmax.toNat) (hck : s.lz4flg.getLsbD 4 = true → ck.isSome = true) :
    lz4Block stored size data ck s =
      if s.nextCut = 0xFFFFFFFF then .refused .tooManyBlocks
      else .next { s with nextCut := s.nextCut + 1, blockQ := s.blockQ ++ [blockWaiting stored data ck s],
                          want := .lz4Blk } := by
  have hcut : ¬ (s.lz4flg.getLsbD 4 = true ∧ ck = none) := fun ⟨hf, hn⟩ => by rw [hn] at hck; exact nomatch hck hf
  rw [lz4Block, if_neg (Nat.not_lt.mpr h), if_neg hcut]
  rfl

end

/-- Settles O43: a block is queued, refused or raises its failure, and a failure that is held waits for the blocks
before it. -/
theorem lz4BlocksAreQueued : Obligations.Lz4BlocksAreQueued := by
  refine ⟨fun s rest d hag hb hdir hcan hdef => ⟨_, step_deferred hag hb hdir hcan hdef, ?_⟩,
    fun s stored size data ck => ?_⟩
  · split_ifs
    · exact failSession_failedAs (s := { s with agenda := rest }) hb d
    · rfl
  · dsimp only
    rw [exec_lz4Block]
    refine ⟨rfl, fun h hck hn => ⟨_, blockWaiting stored data ck s, ?_, rfl, rfl, rfl, rfl⟩, fun h hck hn => ?_,
      fun h hb hc => ⟨_, lz4Block_tooBig h, raiseSeq_failedAs hb hc _⟩, fun h hb hc => ?_⟩
    · rw [lz4Block_whole h hck, if_neg hn]
    · rw [lz4Block_whole h hck, if_pos hn]
    · rw [lz4Block_tooBig h, raiseSeq, if_neg hc]

end Sys2Proof.Proofs


/-! PROOFS. The sequences of an LZ4 block: what an engine does with one, and how its bytes are read (O44). -/

namespace Sys2Proof.Proofs

open Machine Safety Laws

/-! ### What an engine produces (R180, R328) -/

theorem engineProduces_engLitsOut {lits : List Byte} {g : Engine} (hw : g.unp.produced.toNat + lits.length < 2 ^ 64) :
    EngineProduces lits g (engLitsOut lits g) :=
  engineProduces_of_produces (s := { State.reset with unp := g.unp }) rfl (produces_litsOut lits hw)

theorem engineProduces_toNat {bs : List Byte} {g h : Engine} (hp : EngineProduces bs g h)
    (hw : g.unp.produced.toNat + bs.length < 2 ^ 64) : h.unp.produced.toNat = g.unp.produced.toNat + bs.length := by
  obtain ⟨hh, -⟩ := hp
  have hprod : h.unp.produced = g.unp.produced + BitVec.ofNat 64 bs.length := by rw [hh]
  rw [hprod, BitVec.toNat_add, BitVec.toNat_ofNat]
  omega

theorem engLitsOut_append (as bs : List Byte) (g : Engine) :
    engLitsOut (as ++ bs) g = engLitsOut bs (engLitsOut as g) := by
  induction as generalizing g with
  | nil => rfl
  | cons a as ih => exact ih _

/-- A copy outputs as many bytes as it copies, and does nothing else (R181). -/
theorem engCopyOut_frame {off n : Nat} {g h : Engine} (e : engCopyOut off n g = some h) :
    ∃ bs : List Byte, bs.length = n ∧ h = engLitsOut bs g := by
  induction n generalizing g with
  | zero => cases e; exact ⟨[], rfl, rfl⟩
  | succ n ih =>
    unfold engCopyOut at e
    split at e
    · cases e
    · next b _ =>
      obtain ⟨bs, hlen, hh⟩ := ih e
      exact ⟨b :: bs, congrArg Nat.succ hlen, hh⟩

/-- What a sequence adds to the output of its engine: its literals, then `n` bytes that each stand also `off` back. -/
def SequenceGrew (lits : List Byte) (off n : Nat) (g h : Engine) : Prop :=
  ∃ bs : List Byte, bs.length = n ∧ h.result.bytes = g.result.bytes ++ lits ++ bs ∧
    h.unp.produced.toNat = g.unp.produced.toNat + lits.length + n ∧
    h.outlen = g.outlen + BitVec.ofNat 32 (lits.length + n) ∧
    h.unp = { g.unp with outwin := h.unp.outwin, produced := h.unp.produced } ∧
    (∀ a, a < g.unp.produced.toNat → h.unp.outwin.read a = g.unp.outwin.read a) ∧
    (∀ k, k < lits.length → h.unp.outwin.read (g.unp.produced.toNat + k) = lits[k]?) ∧
    (∀ k, k < n → h.unp.outwin.read (g.unp.produced.toNat + lits.length + k) = bs[k]? ∧
      h.unp.outwin.read (g.unp.produced.toNat + lits.length + k) =
        h.unp.outwin.read (g.unp.produced.toNat + lits.length + k - off))

theorem sequenceGrew_of_produces {lits bs : List Byte} {off : Nat} {g h : Engine}
    (hp : EngineProduces (lits ++ bs) g h) (hw : g.unp.produced.toNat + lits.length + bs.length < 2 ^ 64)
    (hback : ∀ k, k < bs.length → h.unp.outwin.read (g.unp.produced.toNat + lits.length + k) =
      h.unp.outwin.read (g.unp.produced.toNat + lits.length + k - off)) :
    SequenceGrew lits off bs.length g h := by
  have hnum := engineProduces_toNat hp (by rw [List.length_append]; omega)
  obtain ⟨hh, hread⟩ := hp
  rw [List.length_append] at hnum hh hread
  refine ⟨bs, rfl, ?_, by rw [hnum, Nat.add_assoc], ?_, ?_, fun a ha => ?_, fun k hk => ?_,
    fun k hk => ⟨?_, hback k hk⟩⟩
  · rw [hh, List.append_assoc]
  · rw [hh]
  · rw [hh]
  · rw [hread, if_neg (by omega)]
  · rw [hread, if_pos (by omega), Nat.add_sub_cancel_left, List.getElem?_append_left hk]
  · rw [hread, if_pos (by omega), List.getElem?_append_right (by omega)]
    congr 1
    omega

/-! ### A sequence in its engine (R325, R326, R327) -/

theorem engLitsOut_blkmax (lits : List Byte) (g : Engine) : (engLitsOut lits g).unp.blkmax = g.unp.blkmax := by
  obtain ⟨m, hm⟩ := engLitsOut_eq lits g
  rw [hm]

section
variable {lits : List Byte} {g : Engine}

theorem seqLits_tooBig (h : g.unp.blkmax.toNat < g.unp.produced.toNat + lits.length) : seqLits lits g = none := if_pos h

theorem seqLits_fits (h : ¬ g.unp.blkmax.toNat < g.unp.produced.toNat + lits.length) :
    seqLits lits g = some (engLitsOut lits g) := if_neg h

theorem seqEngine_tooBig (h : g.unp.blkmax.toNat < g.unp.produced.toNat + lits.length) (window : Nat)
    (mat : Option (BitVec 16 × Nat)) : seqEngine window lits mat g = some (failEngine .lz4OutTooBig g) := by
  rw [seqEngine, seqLits_tooBig h]

variable (h : ¬ g.unp.blkmax.toNat < g.unp.produced.toNat + lits.length)
include h

theorem seqEngine_cut (window : Nat) :
    seqEngine window lits none g = some (failEngine .lz4BadSeq (engLitsOut lits g)) := by
  rw [seqEngine, seqLits_fits h]

/-- The tests on a match after its literals are out, then the copy (R327). -/
theorem seqEngine_match (window : Nat) (off : BitVec 16) (m : Nat)
    (hw : g.unp.produced.toNat + lits.length < 2 ^ 64) :
    seqEngine window lits (some (off, m)) g =
      if off = 0 ∨ g.unp.produced.toNat + lits.length < off.toNat then
        some (failEngine .lz4BadOffset (engLitsOut lits g))
      else if window < off.toNat then some (failEngine .distBeyondWindow (engLitsOut lits g))
      else if g.unp.blkmax.toNat < g.unp.produced.toNat + lits.length + (m + 4) then
        some (failEngine .lz4OutTooBig (engLitsOut lits g))
      else engCopyOut off.toNat (m + 4) (engLitsOut lits g) := by
  rw [seqEngine, seqLits_fits h]
  simp only [engineProduces_toNat (engineProduces_engLitsOut hw) hw, engLitsOut_blkmax]

end

/-- The copy of a match after the literals of its sequence (R181, R327). -/
theorem engCopyOut_after_lits {lits : List Byte} {g : Engine} {off : BitVec 16} {n : Nat} (hf : WindowFilled g.unp)
    (hw : g.unp.produced.toNat + lits.length + n < 2 ^ 64)
    (hoff : ¬ (off = 0 ∨ g.unp.produced.toNat + lits.length < off.toNat)) :
    ∃ h, engCopyOut off.toNat n (engLitsOut lits g) = some h ∧ SequenceGrew lits off.toNat n g h ∧
      h = { g with unp := h.unp, outlen := h.outlen, result := { g.result with bytes := h.result.bytes } } := by
  have hnum := engineProduces_toNat (engineProduces_engLitsOut (lits := lits) (g := g) (by omega)) (by omega)
  have hne : off.toNat ≠ 0 := fun h0 => hoff (.inl (BitVec.eq_of_toNat_eq h0))
  obtain ⟨_, h, hcopy, -, -, hback⟩ := engCopyOut_spec (off := off.toNat) (n := n)
    ((engLitsOut_kept lits g).window.filled hf) (Nat.one_le_iff_ne_zero.mpr hne) (by omega) (by omega)
  rw [hnum] at hback
  obtain ⟨bs, rfl, hh⟩ := engCopyOut_frame hcopy
  rw [← engLitsOut_append] at hh
  have hprod : EngineProduces (lits ++ bs) g h := by
    rw [hh]
    exact engineProduces_engLitsOut (by rw [List.length_append]; omega)
  exact ⟨h, hcopy, sequenceGrew_of_produces hprod hw hback, by rw [hprod.1]⟩

/-- The literals of the last sequence (R325, R329). -/
theorem sequenceGrew_engLitsOut {lits : List Byte} {g : Engine} (off : Nat)
    (hw : g.unp.produced.toNat + lits.length < 2 ^ 64) : SequenceGrew lits off 0 g (engLitsOut lits g) :=
  sequenceGrew_of_produces (bs := []) (by rw [List.append_nil]; exact engineProduces_engLitsOut hw) hw nofun

section
variable {s : State} {g : Engine} {lits : List Byte} (hg : s.engines[s.actor]? = some g)
include hg

/-- `LZ4.SEQUENCE` makes its engine what `seqEngine` gives. -/
theorem exec_lz4Sequence_becomes {mat : Option (BitVec 16 × Nat)} {P : Engine → Prop}
    (h : ∃ h, seqEngine (windowBytes s) lits mat g = some h ∧ P h) :
    ∃ t h, exec (.lz4Sequence lits mat) s = .next t ∧ EngineBecomes s.actor h s t ∧ P h := by
  obtain ⟨h, hseq, hP⟩ := h
  refine ⟨_, h, ?_, rfl, hP⟩
  simp only [exec, execLz4Sequence, withEngine, hg, hseq, ofRead]
  rfl

theorem exec_lz4LastSequence_tooBig (h : g.unp.blkmax.toNat < g.unp.produced.toNat + lits.length) :
    exec (.lz4LastSequence lits) s = .next (setEngine s.actor (failEngine .lz4OutTooBig g) s) := by
  simp only [exec, execLz4LastSequence, withEngine, hg, seqLits_tooBig h]

theorem exec_lz4LastSequence_fits (h : ¬ g.unp.blkmax.toNat < g.unp.produced.toNat + lits.length) :
    exec (.lz4LastSequence lits) s = .next (setEngine s.actor (finishEngine (engLitsOut lits g)) s) := by
  simp only [exec, execLz4LastSequence, withEngine, hg, seqLits_fits h]

end

/-! ### A sequence is read from its bytes (R117, R118, R326, R329) -/

theorem decode_lz4Seq_bytes (bs : List Byte) : decode .lz4Seq (bitsOfBytes bs) = decodeSeqBytes bs := by
  rw [decode, sourceBytes_bitsOfBytes]

theorem lz4ReadLen_cut {f : Nat} (h : f = 15) (n : Nat) : lz4ReadLen f (List.replicate n 255) = none := by
  rw [lz4ReadLen, if_pos h]
  exact lz4ReadExt_cut n 15

/-- What a sequence is read as after its literals: the last one, one without its match part, or a whole one. -/
def seqAfterLits (t : Byte) (lits : List Byte) : List Byte → Decoded
  | [] => .ok (.lz4LastSequence lits) []
  | [_] => .ok (.lz4Sequence lits none) []
  | o0 :: o1 :: s =>
    match lz4ReadLen (t.toNat % 16) s with
    | none => .ok (.lz4Sequence lits none) []
    | some (m, rest) => .ok (.lz4Sequence lits (some (BitVec.ofNat 16 (leNat [o0, o1]), m))) (bitsOfBytes rest)

section
variable {t : Byte} {esc lits : List Byte} {ll : Nat} (h : Lz4LengthBytes (t.toNat / 16) esc ll)
include h

theorem decodeSeqBytes_litsCut (hl : lits.length < ll) : decodeSeqBytes (t :: (esc ++ lits)) = .bad .lz4BadSeq := by
  simp only [decodeSeqBytes, lz4ReadLen_bytes h, if_pos hl]

theorem decodeSeqBytes_lits (hl : lits.length = ll) (tail : List Byte) :
    decodeSeqBytes (t :: (esc ++ (lits ++ tail))) = seqAfterLits t lits tail := by
  subst hl
  have hlong : ¬ (lits ++ tail).length < lits.length := by rw [List.length_append]; omega
  simp only [decodeSeqBytes, lz4ReadLen_bytes h, if_neg hlong, List.drop_left, List.take_left]
  rfl

end

theorem seqAfterLits_cut {t : Byte} (ht : t.toNat % 16 = 15) (lits : List Byte) (o0 o1 : Byte) (n : Nat) :
    seqAfterLits t lits (o0 :: o1 :: List.replicate n 255) = .ok (.lz4Sequence lits none) [] := by
  simp only [seqAfterLits, lz4ReadLen_cut ht]

theorem seqAfterLits_match {t : Byte} {esc : List Byte} {m : Nat} (h : Lz4LengthBytes (t.toNat % 16) esc m)
    (lits : List Byte) (o0 o1 : Byte) (rest : List Byte) :
    seqAfterLits t lits (o0 :: o1 :: (esc ++ rest)) =
      .ok (.lz4Sequence lits (some (BitVec.ofNat 16 (o0.toNat + 256 * o1.toNat), m))) (bitsOfBytes rest) := by
  simp only [seqAfterLits, lz4ReadLen_bytes h, leNat, Nat.mul_zero, Nat.add_zero]

/-- Settles O44: the engine makes the tests of `seqEngine` in order, then copies; the reader takes the length field of
the literals, the literals, and what follows them. -/
theorem lz4SequencesDecode : Obligations.Lz4SequencesDecode := by
  refine ⟨fun s g lits off m hg hf hw => ⟨?_, ?_, ?_⟩, rfl, fun t n ht => ?_, fun t esc lits ll h =>
    ⟨fun hl => ?_, fun hl => ⟨?_, fun o => ?_, fun o0 o1 n ht => ?_, fun o0 o1 esc' rest m hm => ?_⟩⟩⟩
  · refine exec_lz4Sequence_becomes hg (exists_and_ite
      (fun hbig => ⟨_, seqEngine_tooBig hbig _ _, rfl, rfl, rfl⟩) fun hfits => ?_)
    rw [seqEngine_match hfits _ off m (by omega)]
    refine exists_and_ite (fun hoff => ⟨_, if_pos hoff, rfl, rfl, rfl⟩) fun hoff => ?_
    rw [if_neg hoff]
    refine exists_and_ite (fun hwin => ⟨_, if_pos hwin, rfl, rfl, rfl⟩) fun hwin => ?_
    rw [if_neg hwin]
    refine exists_and_ite (fun hbig => ⟨_, if_pos hbig, rfl, rfl, rfl⟩) fun hbig => ?_
    rw [if_neg hbig]
    exact engCopyOut_after_lits hf hw hoff
  · by_cases hbig : g.unp.blkmax.toNat < g.unp.produced.toNat + lits.length
    · refine ⟨_, failEngine .lz4OutTooBig g, exec_lz4LastSequence_tooBig hg hbig, rfl, ?_⟩
      rw [if_pos hbig]
      exact ⟨rfl, rfl, rfl⟩
    · refine ⟨_, finishEngine (engLitsOut lits g), exec_lz4LastSequence_fits hg hbig, rfl, ?_⟩
      rw [if_neg hbig]
      obtain ⟨w, hlits⟩ := engLitsOut_eq lits g
      refine ⟨sequenceGrew_engLitsOut off.toNat (by omega), rfl, rfl, ?_, rfl, ?_⟩ <;> rw [hlits] <;> rfl
  · exact exec_lz4Sequence_becomes hg (exists_and_ite
      (fun hbig => ⟨_, seqEngine_tooBig hbig _ _, rfl, rfl, rfl⟩)
      fun hfits => ⟨_, seqEngine_cut hfits _, rfl, rfl, rfl⟩)
  · rw [decode_lz4Seq_bytes, decodeSeqBytes, lz4ReadLen_cut ht]
  all_goals simp only [decode_lz4Seq_bytes, List.cons_append, List.append_assoc, List.nil_append]
  · exact decodeSeqBytes_litsCut h hl
  · have hlast := decodeSeqBytes_lits h hl []
    rwa [List.append_nil] at hlast
  · exact decodeSeqBytes_lits h hl [o]
  · rw [decodeSeqBytes_lits h hl, seqAfterLits_cut ht]
  · rw [decodeSeqBytes_lits h hl, seqAfterLits_match hm]

end Sys2Proof.Proofs


/-! PROOFS. The Snappy preamble (O45) and the Snappy elements (O46) being read. -/

namespace Sys2Proof.Proofs

open Machine Safety Laws

/-! ### The value of a varint (R120, R358) -/

theorem varintValue_concat (bs : List Byte) (b : Byte) :
    varintValue (bs ++ [b]) = varintValue bs + 2 ^ (7 * bs.length) * (b.toNat % 128) := by
  induction bs with
  | nil => simp [varintValue]
  | cons c bs ih =>
    rw [List.cons_append, varintValue, varintValue, ih, List.length_cons]
    ring

theorem varintValue_lt (bs : List Byte) : varintValue bs < 2 ^ (7 * bs.length) := by
  induction bs with
  | nil => exact Nat.one_pos
  | cons b bs ih =>
    rw [varintValue, List.length_cons, Nat.mul_succ, Nat.pow_add]
    omega

/-- The bytes of a varint add up without carries, so their low seven bits are joined by an or (R358). -/
theorem foldl_or_eq_varintValue (bs : List Byte) :
    (List.range bs.length).foldl (fun v k => v ||| (((bs.getD k 0).toNat &&& 127) <<< (7 * k))) 0 =
      varintValue bs := by
  induction bs using List.reverseRecOn with
  | nil => rfl
  | append_singleton bs b ih =>
    have hbefore : (List.range bs.length).foldl
        (fun v k => v ||| ((((bs ++ [b]).getD k 0).toNat &&& 127) <<< (7 * k))) 0 = varintValue bs := by
      rw [← ih]
      refine List.foldl_ext _ _ _ fun v k hk => ?_
      rw [List.getD_append _ _ _ _ (List.mem_range.mp hk)]
    have hlow : b.toNat &&& 127 = b.toNat % 128 := Nat.and_two_pow_sub_one_eq_mod b.toNat 7
    rw [List.length_append, List.length_singleton, List.range_succ, List.foldl_append, hbefore, List.foldl_cons,
      List.foldl_nil, List.getD_append_right _ _ _ _ (Nat.le_refl _), Nat.sub_self, List.getD_cons_zero, hlow,
      varintValue_concat, Nat.or_comm, ← Nat.shiftLeft_add_eq_or_of_lt (varintValue_lt bs), Nat.shiftLeft_eq,
      Nat.mul_comm, Nat.add_comm]

/-! ### The preamble (R358) -/

/-- A varint of at most five bytes fits `DECLARED`. -/
theorem toNat_ofNat_varintValue {bs : List Byte} (h : bs.length ≤ 5) :
    (BitVec.ofNat 64 (varintValue bs)).toNat = varintValue bs := by
  have hlt := (varintValue_lt bs).trans_le (Nat.pow_le_pow_right Nat.two_pos (Nat.mul_le_mul_left 7 h))
  rw [BitVec.toNat_ofNat]
  omega

theorem varintBad_iff {bs : List Byte} : varintBad bs = true ↔ 0x0F < (bs.getD 4 0).toNat := decide_eq_true_iff

theorem exec_snpPreamble_good {bs : List Byte} (h : (bs.getD 4 0).toNat ≤ 0x0F) (s : State) :
    exec (.snpPreamble bs) s = .next { s with
      phase := .body, want := .snpTag,
      unp := { s.unp with declared := BitVec.ofNat 64 (varintValue bs), produced := 0, outwin := [] } } :=
  if_neg (varintBad_iff.not.mpr (Nat.not_lt.mpr h))

theorem exec_snpPreamble_bad {bs : List Byte} (h : 0x0F < (bs.getD 4 0).toNat) (s : State) :
    exec (.snpPreamble bs) s = .next (raiseSeq .snpBadVarint s) := if_pos (varintBad_iff.mpr h)

theorem varintStops_iff {k : Nat} {b : Byte} : varintStops k b = true ↔ k = 4 ∨ b.toNat < 128 := by
  simp [varintStops]

theorem varintStops_eq_false {k : Nat} {b : Byte} (hk : k < 4) (hb : 128 ≤ b.toNat) : varintStops k b = false :=
  Bool.eq_false_iff.mpr (varintStops_iff.not.mpr (by omega))

/-- Bytes from 128 on up to the one that stops the reader have the shape of a varint (R358). -/
theorem varintShape_of_bytes {k : Nat} {bs : List Byte} (hne : bs ≠ []) (hlen : k + bs.length ≤ 5)
    (hmore : ∀ j, j + 1 < bs.length → 128 ≤ (bs.getD j 0).toNat)
    (hstop : k + bs.length = 5 ∨ (bs.getD (bs.length - 1) 0).toNat < 128) : varintShape k bs = true := by
  induction bs generalizing k with
  | nil => exact absurd rfl hne
  | cons b bs ih =>
    cases bs with
    | nil => exact varintStops_iff.mpr (hstop.imp_left Nat.succ.inj)
    | cons c bs =>
      simp only [List.length_cons] at hlen hmore hstop
      have hb : varintStops k b = false := varintStops_eq_false (by omega) (hmore 0 (by omega))
      have hrest : varintShape (k + 1) (c :: bs) = true :=
        ih (List.cons_ne_nil c bs) (by rw [List.length_cons]; omega) (fun j hj => hmore (j + 1) (Nat.succ_lt_succ hj))
          (hstop.imp_left fun h => by rw [List.length_cons]; omega)
      simp only [varintShape, hb, hrest, Bool.not_false, Bool.and_self]

/-- A reader that meets only bytes from 128 on, fewer than five, finds no end (R358). -/
theorem takeVarint_short {k : Nat} {bs : List Byte} (hlen : k + bs.length < 5)
    (hmore : ∀ j, j < bs.length → 128 ≤ (bs.getD j 0).toNat) (fuel : Nat) :
    takeVarint fuel k (bitsOfBytes bs) = none := by
  induction bs generalizing k fuel with
  | nil => cases fuel <;> rfl
  | cons b bs ih =>
    cases fuel with
    | zero => rfl
    | succ fuel =>
      rw [List.length_cons] at hlen
      have hb : varintStops k b = false := varintStops_eq_false (by omega) (hmore 0 (Nat.succ_pos _))
      have hrest := ih (k := k + 1) (by omega) (fun j hj => hmore (j + 1) (Nat.succ_lt_succ hj)) fuel
      simp only [takeVarint, bitsOfBytes, takeByte_bitsOfByte, hb, hrest, Bool.false_eq_true, if_false]

/-- Settles O45: `DECLARED` holds every varint of at most five bytes, the fifth byte decides the failure, and the bytes
read are those of the shape of a varint. -/
theorem snappyPreambleDeclares : Obligations.SnappyPreambleDeclares := by
  refine ⟨fun bs s hlen => ⟨fun hgood => ?_, fun hbad hb hc => ?_⟩, fun bs rest hne hlen hmore hstop => ?_,
    fun bs hlen hmore => ?_⟩
  · refine ⟨_, exec_snpPreamble_good hgood s, rfl, rfl, ?_⟩
    rw [foldl_or_eq_varintValue]
    exact toNat_ofNat_varintValue hlen
  · exact ⟨_, exec_snpPreamble_bad hbad s, raiseSeq_failedAs hb hc _⟩
  · have hshape : varintShape 0 bs = true :=
      varintShape_of_bytes hne (by omega) hmore (hstop.imp_left fun h => by omega)
    rw [decode, bitsOfBytes_append, takeVarint_bitsOfBytes rfl hshape, need_some]
  · rw [decode, takeVarint_short (by omega) hmore]
    rfl

/-! ### Literals and copies (R360, R361) -/

theorem exec_snpLiteral_fits {m : BitVec 6} {ext : List Byte} {s : State}
    (h : s.unp.produced.toNat + snpLitLen m ext ≤ s.unp.declared.toNat) (data : List Byte) :
    exec (.snpLiteral m ext data) s = .next (litsOut data s) := if_neg (Nat.not_lt.mpr h)

theorem exec_snpLiteral_overrun {m : BitVec 6} {ext : List Byte} {s : State}
    (h : s.unp.declared.toNat < s.unp.produced.toNat + snpLitLen m ext) (data : List Byte) :
    exec (.snpLiteral m ext data) s = .next (raiseSeq .snpOverrun s) := if_pos h

/-- Each outcome of a copy element, by the first of its tests that fails (R361). -/
theorem snpCopy_spec {off len : Nat} {s : State} (hb : busy s = true) (hc : s.nextCollect = s.nextCut)
    (hf : WindowFilled s.unp) :
    ∃ t, snpCopy off len s = .next t ∧
      if off = 0 ∨ s.unp.produced.toNat < off then FailedAs .snpBadOffset s t
      else if windowBytes s < off then FailedAs .distBeyondWindow s t
      else if s.unp.declared.toNat < s.unp.produced.toNat + len then FailedAs .snpOverrun s t
      else ∃ bs : List Byte, bs.length = len ∧ Produces bs s t ∧
        ∀ j, j < len → t.unp.outwin.read (s.unp.produced.toNat + j) =
          t.unp.outwin.read (s.unp.produced.toNat + j - off) := by
  have hraise (d : Detail) : FailedAs d s (raiseSeq d s) := raiseSeq_failedAs hb hc d
  rw [snpCopy]
  refine exists_and_ite (fun hoff => ⟨_, if_pos hoff, hraise _⟩) fun hoff => ?_
  rw [if_neg hoff]
  refine exists_and_ite (fun hwin => ⟨_, if_pos hwin, hraise _⟩) fun hwin => ?_
  rw [if_neg hwin]
  refine exists_and_ite (fun hover => ⟨_, if_pos hover, hraise _⟩) fun hover => ?_
  rw [if_neg hover]
  obtain ⟨bs, t, hcopy, hlen, hprod, hback⟩ :=
    copyReadsItsOwnOutput off len s hf (by omega) (by omega) (by omega)
  exact ⟨t, by rw [hcopy, ofRead], bs, hlen, hprod, hback⟩

/-- Settles O46: a literal's bytes are produced unless they pass `DECLARED`, and the three copy forms are one `snpCopy`
of their offset and length. -/
theorem snappyElementsAreChecked : Obligations.SnappyElementsAreChecked := by
  refine ⟨fun m ext data s => ⟨fun hdata hfits => ?_, fun hover hb hc => ?_⟩, fun s i o l hb hc hf hi => ?_⟩
  · exact ⟨_, exec_snpLiteral_fits hfits data, produces_litsOut data (by omega)⟩
  · exact ⟨_, exec_snpLiteral_overrun hover data, raiseSeq_failedAs hb hc _⟩
  · have hexec : exec i s = snpCopy o l s := by
      obtain ⟨a, b, rfl, rfl, rfl⟩ | ⟨a, b, rfl, rfl, rfl⟩ | ⟨a, b, rfl, rfl, rfl⟩ := hi <;> rfl
    rw [hexec]
    exact snpCopy_spec hb hc hf

end Sys2Proof.Proofs


/-! PROOFS. The transitions of `PHASE` (O57): what each element and each turn does to the phase and to the element
wanted next. -/

namespace Sys2Proof.Proofs

open Machine Safety Laws

/-! ### The phase and the element wanted (R383, R387) -/

/-- May the element `w` be wanted in a session of direction `d` in phase `p`? -/
def wantStands (d : Dir) (w : Want) (p : Phase) : Bool :=
  wantInPhase { State.reset with dir := d, want := w, phase := p }

theorem wantInPhase_eq (s : State) : wantInPhase s = wantStands s.dir s.want s.phase := rfl

theorem wantStands_nothing (d : Dir) (p : Phase) : wantStands d .nothing p = true := by
  cases d <;> rfl

/-- From `s` to `t` the phase moves as R383 lists, and what `t` wants belongs to its phase. -/
def Proceeds (s t : State) : Prop := phaseMove s.phase t.phase = true ∧ wantStands t.dir t.want t.phase = true

theorem phaseMove_self (p : Phase) : phaseMove p p = true := by cases p <;> rfl

theorem phaseMove_failed (p : Phase) : phaseMove p .failed = true := by cases p <;> rfl

theorem phaseMove_idle (p : Phase) : phaseMove p .idle = true := by cases p <;> rfl

theorem phaseMove_cancelled {p : Phase} (h : phaseBusy p = true) : phaseMove p .cancelled = true := by
  cases p with
  | header | body | trailer => rfl
  | idle | done | failed | cancelled => cases h

theorem phaseMove_header {p : Phase} (h : phaseBusy p = false) : phaseMove p .header = true := by
  cases p with
  | header | body | trailer => cases h
  | idle | done | failed | cancelled => rfl

/-- The phase, the direction and the element wanted are the same. -/
structure SameStage (s t : State) : Prop where
  phase : t.phase = s.phase := by rfl
  want : t.want = s.want := by rfl
  dir : t.dir = s.dir := by rfl

theorem SameStage.refl (s : State) : SameStage s s := {}

theorem SameStage.wantInPhase {s t : State} (h : SameStage s t) (hw : wantInPhase s = true) : wantInPhase t = true := by
  rwa [wantInPhase_eq, h.dir, h.want, h.phase]

theorem SameStage.busy {s t : State} (h : SameStage s t) : Machine.busy t = Machine.busy s :=
  congrArg phaseBusy h.phase

theorem SameStage.proceeds {s t : State} (h : SameStage s t) (hw : Safety.wantInPhase s = true) : Proceeds s t :=
  ⟨h.phase ▸ phaseMove_self _, h.wantInPhase hw⟩

/-- What comes after a change that leaves the phase. -/
theorem Proceeds.after {s t u : State} (h : Proceeds t u) (hp : t.phase = s.phase := by rfl) : Proceeds s u :=
  ⟨hp ▸ h.1, h.2⟩

/-- A decompression goes on to a phase and an element wanted in it. -/
theorem proceeds_to {s t : State} {p q : Phase} {w : Want} (hs : s.phase = p) (hd : t.dir = .decompress)
    (ht : t.phase = q := by rfl) (hw : t.want = w := by rfl)
    (h : (phaseMove p q && wantStands .decompress w q) = true := by rfl) : Proceeds s t := by
  rw [Bool.and_eq_true] at h
  exact ⟨by rw [hs, ht]; exact h.1, by rw [hd, hw, ht]; exact h.2⟩

/-- A state that wants no element proceeds by its phase alone. -/
theorem proceeds_of_nothing {s t : State} (hp : phaseMove s.phase t.phase = true) (hw : t.want = .nothing := by rfl) :
    Proceeds s t :=
  ⟨hp, hw ▸ wantStands_nothing _ _⟩

/-! ### Failures and the ends of a session (R440, R399, R400, R395) -/

section
variable {s : State} (hb : busy s = true)
include hb

theorem failWith_proceeds (k : BitVec 4) (d : BitVec 8) (e : Nat) (b : Word) : Proceeds s (failWith k d e b s) := by
  rw [failWith_busy hb]
  exact proceeds_of_nothing (phaseMove_failed _)

theorem failSession_proceeds (d : Detail) : Proceeds s (failSession d s) := failWith_proceeds hb _ _ _ _

theorem raiseSeq_proceeds (d : Detail) : Proceeds s (raiseSeq d s) := by
  obtain ⟨_, h⟩ | ⟨_, h⟩ := raiseSeq_cases d s
  · rw [h]; exact failSession_proceeds hb d
  · rw [h]; exact proceeds_of_nothing (phaseMove_self _)

theorem cancelSession_proceeds : Proceeds s (cancelSession s) :=
  proceeds_of_nothing (phaseMove_cancelled hb)

end

theorem completeSession_proceeds {s : State} (h : s.phase = .trailer) : Proceeds s (completeSession s) :=
  proceeds_of_nothing (by rw [h]; rfl)

/-! ### Commands (R380 to R387) -/

theorem resetMachine_proceeds (s : State) : Proceeds s (resetMachine s) :=
  proceeds_of_nothing (phaseMove_idle _)

theorem initSession_stands (d : Dir) (s : State) : wantInPhase (initSession d s) = true := by
  show wantStands d (match d with
      | .compress => .nothing
      | .decompress => firstWant (codecOf s.regs.cfg)) .header = true
  cases d with
  | compress => rfl
  | decompress => cases codecOf s.regs.cfg <;> rfl

theorem startSession_proceeds {s : State} (hb : busy s = false) (d : Dir) : Proceeds s (startSession d s) := by
  obtain ⟨_, h⟩ | ⟨e, _, h⟩ := startSession_cases d s
  · rw [h]; exact ⟨phaseMove_header hb, initSession_stands d s⟩
  · rw [h]; exact proceeds_of_nothing (phaseMove_failed _)

theorem startCommand_proceeds {d : Dir} {s t : State} (hw : wantInPhase s = true) (h : startCommand d s = .next t) :
    Proceeds s t := by
  unfold startCommand at h
  cases h
  split
  · exact (SameStage.refl s).proceeds hw
  · next hb => exact startSession_proceeds (Bool.eq_false_iff.mpr hb) d

/-! ### Beats and the fields of `CFG` -/

theorem ckTake_sameStage (bs : List Byte) (s : State) : SameStage s (ckTake bs s) :=
  ⟨ckTake_phase bs s, ckTake_want bs s, ckTake_dir bs s⟩

theorem emit_sameStage (bs : List Byte) (s : State) : SameStage s (emit bs s) :=
  ⟨emit_phase bs s, emit_want bs s, emit_dir bs s⟩

theorem setCfg_sameStage (lo w v : Nat) (s : State) : SameStage s (setCfg lo w v s) :=
  ⟨setCfg_phase lo w v s, setCfg_want lo w v s, setCfg_dir lo w v s⟩

theorem SameStage.trans {s t u : State} (h : SameStage s t) (k : SameStage t u) : SameStage s u :=
  ⟨k.phase.trans h.phase, k.want.trans h.want, k.dir.trans h.dir⟩

theorem cutBlock_sameStage {f : Bool} {s t : State} (h : cutBlock f s = .next t) : SameStage s t := by
  unfold cutBlock at h
  split at h
  · cases h
  · cases h; exact {}

theorem takeRaw_sameStage {b : Byte} {l : Bool} {s t : State} (h : takeRaw b l s = .next t) : SameStage s t := by
  have h1 : SameStage s (ckTake [b] { s with incnt := s.incnt + 1, asm := s.asm ++ [b], inEnded := l }) :=
    SameStage.trans {} (ckTake_sameStage [b] _)
  unfold takeRaw at h
  dsimp only at h
  split at h
  · exact h1.trans (cutBlock_sameStage h)
  · cases h; exact h1

theorem takeBeat_sameStage {b : Byte} {l : Bool} {s t : State} (h : takeBeat b l s = .next t) : SameStage s t := by
  unfold takeBeat at h
  split at h
  · cases h
    split <;> exact {}
  · split at h
    · split at h
      · exact takeRaw_sameStage h
      · cases h; exact {}
    · cases h; exact {}

theorem execBeatEndEmpty_sameStage {s t : State} (h : execBeatEndEmpty s = .next t) : SameStage s t := by
  unfold execBeatEndEmpty at h
  split at h
  · cases h; exact {}
  · split at h
    · dsimp only at h
      split at h
      · split at h
        · exact SameStage.trans {} (cutBlock_sameStage h)
        · cases h; exact {}
      · cases h; exact {}
    · cases h; exact {}

theorem execCancel_sameStage {s t : State} (h : execCancel s = .next t) : SameStage s t := by
  unfold execCancel at h
  cases h
  split <;> exact {}

/-! ### Tokens and sequences leave the stage (R180, R181, R182, R325) -/

theorem litOut_sameStage (b : Byte) (s : State) : SameStage s (litOut b s) :=
  ⟨litOut_phase b s, litOut_want b s, litOut_dir b s⟩

theorem litsOut_sameStage (bs : List Byte) (s : State) : SameStage s (litsOut bs s) :=
  ⟨litsOut_phase bs s, litsOut_want bs s, litsOut_dir bs s⟩

theorem copyOut_sameStage {off n : Nat} {s t : State} (h : copyOut off n s = some t) : SameStage s t := by
  obtain ⟨bs, _, rfl⟩ := copyOut_frame h
  exact litsOut_sameStage bs s

theorem setEngine_sameStage (e : Nat) (g : Engine) (s : State) : SameStage s (setEngine e g s) := {}

/-- A meaning that answers only states with `P`. -/
def Answers (P : State → Prop) (o : Res) : Prop := ∀ t, o = .next t → P t

theorem Answers.mono {P Q : State → Prop} {o : Res} (h : Answers P o) (hpq : ∀ t, P t → Q t) : Answers Q o :=
  fun t ht => hpq t (h t ht)

theorem answers_next {P : State → Prop} {t : State} (h : P t) : Answers P (.next t) := by
  rintro _ ⟨⟩; exact h

theorem answers_fault (P : State → Prop) (f : Fault) : Answers P (.fault f) := fun _ h => by cases h

theorem answers_refused (P : State → Prop) (r : Refusal) : Answers P (.refused r) := fun _ h => by cases h

theorem answers_withEngine {P : State → Prop} {e : Nat} {s : State} {k : Engine → Res} (h : ∀ g, Answers P (k g)) :
    Answers P (withEngine e s k) := fun t ht => by
  obtain ⟨g, _, hk⟩ := withEngine_next ht
  exact h g t hk

theorem answers_ofRead {α : Type} {P : State → Prop} {o : Option α} {k : α → Res}
    (h : ∀ a, o = some a → Answers P (k a)) : Answers P (ofRead o k) := fun t ht => by
  obtain ⟨a, ha, hk⟩ := ofRead_next ht
  exact h a ha t hk

theorem staysIn_storeEngine (s : State) (o : Option Engine) : Answers (SameStage s) (storeEngine s o) :=
  answers_ofRead fun g _ => answers_next (setEngine_sameStage _ g s)

theorem packLit_staysIn (b : Byte) (s : State) : Answers (SameStage s) (packLit b s) := by
  unfold packLit
  refine answers_withEngine fun g => ?_
  split
  · exact staysIn_storeEngine s _
  · exact staysIn_storeEngine s _
  · exact staysIn_storeEngine s _
  · exact answers_fault _ _

theorem packMatch_staysIn (off len : Nat) (s : State) : Answers (SameStage s) (packMatch off len s) := by
  unfold packMatch
  refine answers_withEngine fun g => ?_
  split
  · exact answers_fault _ _
  · split
    · split <;> exact staysIn_storeEngine s _
    · exact answers_fault _ _

theorem packEob_staysIn (s : State) : Answers (SameStage s) (packEob s) := by
  unfold packEob
  refine answers_withEngine fun g => ?_
  split
  · exact staysIn_storeEngine s _
  · exact staysIn_storeEngine s _
  · exact staysIn_storeEngine s _
  · exact answers_fault _ _

theorem tokLitOut_staysIn (b : Byte) (s : State) : Answers (SameStage s) (tokLitOut b s) := by
  unfold tokLitOut
  split
  · exact answers_withEngine fun g => answers_next (setEngine_sameStage _ _ s)
  · exact answers_next (litOut_sameStage b s)

theorem tokCopyOut_staysIn (off len : Nat) (s : State) : Answers (SameStage s) (tokCopyOut off len s) := by
  unfold tokCopyOut
  split
  · exact answers_withEngine fun g => answers_ofRead fun h _ => answers_next (setEngine_sameStage _ h s)
  · exact answers_ofRead fun t ht => answers_next (copyOut_sameStage ht)

theorem execLit_staysIn (b : Byte) (s : State) : Answers (SameStage s) (execLit b s) := by
  unfold execLit
  split
  · exact tokLitOut_staysIn b s
  · exact packLit_staysIn b s

theorem execMatchTok_staysIn (off : BitVec 17) (len : BitVec 16) (s : State) :
    Answers (SameStage s) (execMatchTok off len s) := by
  unfold execMatchTok
  split
  · exact tokCopyOut_staysIn _ _ s
  · exact packMatch_staysIn _ _ s

theorem execEob_staysIn (s : State) : Answers (SameStage s) (execEob s) := by
  unfold execEob
  split
  · exact answers_next (.refl s)
  · exact packEob_staysIn s

theorem execLz4Sequence_staysIn (lits : List Byte) (mat : Option (BitVec 16 × Nat)) (s : State) :
    Answers (SameStage s) (execLz4Sequence lits mat s) :=
  answers_withEngine fun _ => answers_ofRead fun h _ => answers_next (setEngine_sameStage _ h s)

theorem execLz4LastSequence_staysIn (lits : List Byte) (s : State) :
    Answers (SameStage s) (execLz4LastSequence lits s) := by
  unfold execLz4LastSequence
  refine answers_withEngine fun g => ?_
  split <;> exact answers_next (setEngine_sameStage _ _ s)

/-! ### The elements of a decompression (R255 to R267, R283 to R289, R321 to R330, R358 to R361) -/

/-- The sequencer of a decompression stands in phase `p`, before an element of that phase. -/
structure Reading (p : Phase) (s : State) : Prop where
  busy : busy s = true
  dir : s.dir = .decompress
  phase : s.phase = p
  want : wantInPhase s = true

section
variable {p : Phase} {s t : State} (h : Reading p s)
include h

theorem Reading.of_sameStage (k : SameStage s t) : Reading p t :=
  ⟨k.busy.trans h.busy, k.dir.trans h.dir, k.phase.trans h.phase, k.wantInPhase h.want⟩

/-- A failure; what the element has set beside the phase does not matter. -/
theorem Reading.raise (d : Detail) (hp : t.phase = s.phase := by rfl) : Proceeds s (raiseSeq d t) :=
  .after (raiseSeq_proceeds ((congrArg phaseBusy hp).trans h.busy) d) hp

theorem Reading.leads {q : Phase} {w : Want} (hd : t.dir = s.dir := by rfl)
    (ht : t.phase = q := by rfl) (hw : t.want = w := by rfl)
    (ok : (phaseMove p q && wantStands .decompress w q) = true := by rfl) : Proceeds s t :=
  proceeds_to h.phase (hd.trans h.dir) ht hw ok

/-- Another element of the same phase is wanted. -/
theorem Reading.wants {w : Want} (hd : t.dir = s.dir := by rfl) (hp : t.phase = s.phase := by rfl)
    (hw : t.want = w := by rfl) (ok : wantStands .decompress w p = true := by rfl) : Proceeds s t :=
  h.leads hd (hp.trans h.phase) hw (by rw [phaseMove_self, ok]; rfl)

end

/-! #### Headers (R283, R288, R321, R322, R358) -/

section
variable {s : State} (h : Reading .header s)
include h

theorem execZlibHeader_leadsOn (cmf flg : Byte) : Answers (Proceeds s) (execZlibHeader cmf flg s) := by
  unfold execZlibHeader
  split
  · exact answers_next (h.raise _)
  · exact answers_next h.leads

theorem execGzipHeader_leadsOn (id1 id2 cm flg : Byte) (mtime : Word) (xfl os : Byte) (x n c : Option (List Byte))
    (crc16 : Option (BitVec 16)) : Answers (Proceeds s) (execGzipHeader id1 id2 cm flg mtime xfl os x n c crc16 s) := by
  unfold execGzipHeader
  split
  · exact answers_next (h.raise _)
  · split
    · split
      · exact answers_next (h.raise _)
      · refine answers_next ?_
        split
        · exact h.leads
        · exact h.raise _
    · exact answers_next h.leads

theorem lz4DescEnd_proceeds (flg hc : Byte) : Proceeds s (lz4DescEnd flg hc s) := by
  unfold lz4DescEnd
  split
  · exact h.raise _
  · split
    · exact h.raise _
    · split
      · exact h.raise _
      · exact h.leads

theorem execLz4Descriptor_leadsOn (flg : Byte) (bd : Option Byte) (csize : Option (BitVec 64)) (dict : Option Word)
    (hc : Option Byte) : Answers (Proceeds s) (execLz4Descriptor flg bd csize dict hc s) := by
  unfold execLz4Descriptor
  split
  · exact answers_next (h.raise _)
  · split
    · exact answers_next (h.raise _)
    · split
      · exact answers_next (h.raise _)
      · dsimp only
        split
        · exact answers_next (h.raise _)
        · exact answers_next (.after (lz4DescEnd_proceeds (h.of_sameStage {}) flg _))

theorem execSnpPreamble_leadsOn (bs : List Byte) : Answers (Proceeds s) (execSnpPreamble bs s) := by
  unfold execSnpPreamble
  split
  · exact answers_next (h.raise _)
  · exact answers_next h.leads

end

/-! #### Bodies -/

section
variable {s : State} (h : Reading .body s)
include h

theorem blockEnd_proceeds : Proceeds s (blockEnd s) := by
  unfold blockEnd
  split
  · exact h.leads (ok := by cases codec s <;> rfl)
  · exact h.wants

theorem execDflStoredBody_leadsOn (len nlen : BitVec 16) (data : List Byte) :
    Answers (Proceeds s) (execDflStoredBody len nlen data s) := by
  unfold execDflStoredBody
  refine answers_next ?_
  split
  · exact .after (blockEnd_proceeds (h.of_sameStage (litsOut_sameStage data s))) (litsOut_phase data s)
  · exact h.raise _

theorem execDflDynHeader_leadsOn (hlit hdist : BitVec 5) (hclen : BitVec 4) (cl : List (BitVec 3)) :
    Answers (Proceeds s) (execDflDynHeader hlit hdist hclen cl s) := by
  unfold execDflDynHeader
  dsimp only
  split
  · exact answers_next (h.raise _)
  · split
    · exact answers_next (h.raise _)
    · exact answers_next h.wants

theorem distanceSym_leadsOn (n e : Nat) : Answers (Proceeds s) (distanceSym n e s) := by
  unfold distanceSym
  dsimp only
  split
  · exact answers_next (h.raise _)
  · split
    · exact answers_next (h.raise _)
    · refine answers_ofRead fun t ht => answers_next ?_
      have same := copyOut_sameStage ht
      exact h.wants same.dir same.phase

theorem finishLens_proceeds : Proceeds s (finishLens s) := by
  unfold finishLens
  dsimp only
  split
  · exact h.raise _
  · split
    · exact h.raise _
    · split
      · exact h.raise _
      · exact h.wants

theorem appendLens_proceeds (v : BitVec 4) (n : Nat) : Proceeds s (appendLens v n s) := by
  unfold appendLens
  dsimp only
  have same : SameStage s { s with rdQ := s.rdQ ++ List.replicate n v } := {}
  split
  · exact .after (finishLens_proceeds (h.of_sameStage same))
  · exact same.proceeds h.want

theorem repeatLens_proceeds (v : BitVec 4) (n : Nat) : Proceeds s (repeatLens v n s) := by
  unfold repeatLens
  split
  · exact h.raise _
  · exact appendLens_proceeds h v n

theorem execClRepPrev_leadsOn (e : BitVec 2) : Answers (Proceeds s) (execClRepPrev e s) := by
  unfold execClRepPrev
  split
  · exact answers_next (h.raise _)
  · exact answers_next (repeatLens_proceeds h _ _)

theorem lz4Block_leadsOn (stored : Bool) (size : BitVec 31) (data : List Byte) (ck : Option Word) :
    Answers (Proceeds s) (lz4Block stored size data ck s) := by
  unfold lz4Block
  split
  · exact answers_next (h.raise _)
  · split
    · exact answers_next (h.raise _)
    · split
      · exact answers_refused _ _
      · exact answers_next h.wants

theorem execSnpLiteral_leadsOn (m : BitVec 6) (ext data : List Byte) :
    Answers (Proceeds s) (execSnpLiteral m ext data s) := by
  unfold execSnpLiteral
  split
  · exact answers_next (h.raise _)
  · exact answers_next ((litsOut_sameStage data s).proceeds h.want)

theorem snpCopy_leadsOn (off len : Nat) : Answers (Proceeds s) (snpCopy off len s) := by
  unfold snpCopy
  split
  · exact answers_next (h.raise _)
  · split
    · exact answers_next (h.raise _)
    · split
      · exact answers_next (h.raise _)
      · exact answers_ofRead fun t ht => answers_next ((copyOut_sameStage ht).proceeds h.want)

end

/-! #### Trailers (R284, R289, R330) -/

section
variable {s : State} (h : Reading .trailer s)
include h

/-- A comparison of the stream leads to the trailing-bytes test or to a failure. -/
theorem compared_proceeds (p : Prop) [Decidable p] (d : Detail) :
    Proceeds s (if p then { s with want := .trailing } else raiseSeq d s) := by
  split
  · exact h.wants
  · exact h.raise d

theorem execGzipTrailer_leadsOn (crc : Word) (isize : Option Word) :
    Answers (Proceeds s) (execGzipTrailer crc isize s) := by
  unfold execGzipTrailer
  split
  · split
    · exact answers_next (h.raise _)
    · exact answers_next (compared_proceeds h _ _)
  · exact answers_next (h.raise _)

end

/-! ### The phase of an element (R383, R387) -/

/-- The phase in which an element of a decompressed stream stands; none for the elements of the host, the ports and the
engines. -/
def elemPhase (i : Instr) : Option Phase :=
  match i.format with
  | .zlibHdrFmt | .gzipHdrFmt | .lz4FrameFmt | .snpPreFmt => some .header
  | .dflHdrFmt | .dflStoredFmt | .dflDynFmt | .llSymFmt | .dSymFmt | .clSymFmt | .snpTagFmt => some .body
  | .zlibTrlFmt | .gzipTrlFmt => some .trailer
  | .lz4BlkFmt =>
    match i with
    | .lz4ContentChecksum _ => some .trailer
    | _ => some .body
  | .cmdFmt | .cfgFmt | .beatFmt | .tokenFmt | .lz4SeqFmt => none

/-- What is decoded, if it is an element, is one of phase `p`. -/
def OfPhase (p : Option Phase) (d : Decoded) : Prop := ∀ i r, d = .ok i r → elemPhase i = p

section
variable {p : Option Phase}

theorem ofPhase_ok {i : Instr} (h : elemPhase i = p := by rfl) (r : List Bool) : OfPhase p (.ok i r) := by
  rintro _ _ ⟨⟩; exact h

theorem ofPhase_bad (d : Detail) : OfPhase p (.bad d) := nofun
theorem ofPhase_short : OfPhase p .short := nofun
theorem ofPhase_illegal : OfPhase p .illegal := nofun

theorem ofPhase_need {α : Type} {o : Option (α × List Bool)} {k : α → List Bool → Decoded}
    (h : ∀ a r, OfPhase p (k a r)) : OfPhase p (need o k) := by
  unfold need
  split
  · exact ofPhase_short
  · exact h _ _

theorem decodeSym_ofPhase {t : Tree} {extra : Nat → Nat} {mk : Nat → Nat → Option Instr} (bs : List Bool)
    (h : ∀ s e i, mk s e = some i → elemPhase i = p) : OfPhase p (decodeSym t extra mk bs) := by
  unfold decodeSym
  split
  · exact ofPhase_short
  · exact ofPhase_bad _
  · refine ofPhase_need fun e r => ?_
    split
    · exact ofPhase_ok (h _ _ _ ‹_›) r
    · exact ofPhase_illegal

end

theorem llInstr_phase {s e : Nat} {i : Instr} (h : llInstr s e = some i) : elemPhase i = some .body := by
  unfold llInstr at h
  split at h
  · cases h; rfl
  · split at h <;> cases h <;> rfl

theorem dInstr_phase {s e : Nat} {i : Instr} (h : dInstr s e = some i) : elemPhase i = some .body := by
  unfold dInstr at h
  split at h <;> cases h <;> rfl

theorem clInstr_phase {s e : Nat} {i : Instr} (h : clInstr s e = some i) : elemPhase i = some .body := by
  unfold clInstr at h
  split at h <;> cases h <;> rfl

theorem decodeCl_ofPhase (t : Tree) (q : Bool) (bs : List Bool) : OfPhase (some .body) (decodeCl t q bs) := by
  obtain ⟨_, _, h⟩ | h := decodeCl_cases t q bs
  · rw [h]; exact ofPhase_bad _
  · rw [h]; exact decodeSym_ofPhase bs fun _ _ _ => clInstr_phase

theorem dflHdrInstr_phase (v : Nat) : elemPhase (dflHdrInstr v) = some .body := by
  unfold dflHdrInstr
  split <;> rfl

theorem decodeStored_ofPhase (pad : Nat) (bs : List Bool) : OfPhase (some .body) (decodeStored pad bs) :=
  ofPhase_need fun _ _ => ofPhase_need fun _ _ => by
    split
    · exact ofPhase_need fun _ r => ofPhase_ok rfl r
    · exact ofPhase_ok rfl _

theorem decodeDyn_ofPhase (bs : List Bool) : OfPhase (some .body) (decodeDyn bs) :=
  ofPhase_need fun _ _ => ofPhase_need fun _ _ => ofPhase_need fun _ _ => by
    split
    · exact ofPhase_ok rfl _
    · exact ofPhase_need fun _ r => ofPhase_ok rfl r

theorem decodeGzip_ofPhase (bs : List Bool) : OfPhase (some .header) (decodeGzip bs) :=
  ofPhase_need fun _ _ => ofPhase_need fun _ _ => ofPhase_need fun _ _ => ofPhase_need fun _ _ =>
  ofPhase_need fun _ _ => ofPhase_need fun _ _ => ofPhase_need fun _ _ => by
    split
    · exact ofPhase_ok rfl _
    · exact ofPhase_need fun _ _ => ofPhase_need fun _ _ => ofPhase_need fun _ _ => ofPhase_need fun _ r =>
        ofPhase_ok rfl r

theorem decodeGzipTrl_ofPhase (crc : Word) (bs : List Bool) : OfPhase (some .trailer) (decodeGzipTrl crc bs) :=
  ofPhase_need fun _ _ => by
    split
    · exact ofPhase_need fun _ r => ofPhase_ok rfl r
    · exact ofPhase_ok rfl _

theorem decodeMagic_ofPhase (bs : List Bool) : OfPhase (some .header) (decodeMagic bs) :=
  ofPhase_need fun _ _ => by
    split
    · exact ofPhase_ok rfl _
    · split
      · exact ofPhase_ok rfl _
      · split <;> exact ofPhase_bad _

theorem decodeDesc_ofPhase (bs : List Bool) : OfPhase (some .header) (decodeDesc bs) :=
  ofPhase_need fun _ _ => by
    split
    · exact ofPhase_ok rfl _
    · exact ofPhase_need fun _ _ => by
        split
        · exact ofPhase_ok rfl _
        · exact ofPhase_need fun _ _ => ofPhase_need fun _ _ => ofPhase_need fun _ r => ofPhase_ok rfl r

theorem blockInstr_phase (stored : Bool) (size : BitVec 31) (data : List Byte) (ck : Option Word) :
    elemPhase (blockInstr stored size data ck) = some .body := by
  cases stored <;> rfl

theorem decodeBlk_ofPhase (m : Nat) (ck : Bool) (bs : List Bool) : OfPhase (some .body) (decodeBlk m ck bs) :=
  ofPhase_need fun _ _ => by
    split
    · exact ofPhase_ok rfl _
    · split
      · exact ofPhase_ok (blockInstr_phase ..) _
      · exact ofPhase_need fun _ _ => ofPhase_need fun _ r => ofPhase_ok (blockInstr_phase ..) r

theorem decodeTag_ofPhase (room : Nat) (bs : List Bool) : OfPhase (some .body) (decodeTag room bs) :=
  ofPhase_need fun _ _ => by
    split
    · exact ofPhase_need fun _ _ => by
        split
        · exact ofPhase_ok rfl _
        · exact ofPhase_need fun _ r => ofPhase_ok rfl r
    · exact ofPhase_need fun _ r => ofPhase_ok rfl r
    · exact ofPhase_need fun _ r => ofPhase_ok rfl r
    · exact ofPhase_need fun _ r => ofPhase_ok rfl r

/-- The phase in which an element that is wanted is read (R383, R387). -/
def readPhase (w : Want) : Option Phase :=
  match w with
  | .nothing => none
  | .zlibHdr | .gzipHdr | .lz4Magic | .lz4Desc | .snpPre => some .header
  | .dflHdr | .dflStored | .dflDyn | .clSym | .llSym | .dSym | .lz4Blk | .lz4Drain | .snpTag => some .body
  | .zlibTrl | .gzipTrl | .lz4Content | .trailing => some .trailer

/-- What is wanted in a phase is read in it; only a raw DEFLATE block is wanted before the body begins. -/
theorem readPhase_of_wantInPhase {s : State} (hw : wantInPhase s = true) (hn : s.want ≠ .nothing) :
    readPhase s.want = some s.phase ∨ (s.phase = .header ∧ s.want = .dflHdr) := by
  rw [wantInPhase_eq, wantStands, wantInPhase, Bool.and_eq_true] at hw
  obtain ⟨-, hw⟩ := hw
  cases hwant : s.want with
  | nothing => exact absurd hwant hn
  | dflHdr => simp [hwant] at hw; simp [readPhase]; tauto
  | _ => simp [hwant] at hw; simp [readPhase, hw]

/-- The element read is one of the phase in which it is wanted. -/
theorem decode_ofPhase {s : State} {c : Ctx} (hc : wantCtx s = some c) (bs : List Bool) :
    OfPhase (readPhase s.want) (decode c bs) := by
  unfold wantCtx at hc
  cases hw : s.want <;> rw [hw] at hc <;> cases hc
  case zlibHdr => exact ofPhase_need fun _ _ => ofPhase_need fun _ r => ofPhase_ok rfl r
  case gzipHdr => exact decodeGzip_ofPhase bs
  case lz4Magic => exact decodeMagic_ofPhase bs
  case lz4Desc => exact decodeDesc_ofPhase bs
  case snpPre => exact ofPhase_need fun _ r => ofPhase_ok rfl r
  case dflHdr => exact ofPhase_need fun _ r => ofPhase_ok (dflHdrInstr_phase _) r
  case dflStored => exact decodeStored_ofPhase _ bs
  case dflDyn => exact decodeDyn_ofPhase bs
  case clSym => exact decodeCl_ofPhase _ _ bs
  case llSym => exact decodeSym_ofPhase bs fun _ _ _ => llInstr_phase
  case dSym => exact decodeSym_ofPhase bs fun _ _ _ => dInstr_phase
  case lz4Blk => exact decodeBlk_ofPhase _ _ bs
  case snpTag => exact decodeTag_ofPhase _ bs
  case zlibTrl => exact ofPhase_need fun _ r => ofPhase_ok rfl r
  case gzipTrl => exact decodeGzipTrl_ofPhase _ bs
  case lz4Content => exact ofPhase_need fun _ r => ofPhase_ok rfl r

theorem tokenInstr_phase {v : Nat} {i : Instr} (h : tokenInstr v = some i) : elemPhase i = none := by
  unfold tokenInstr at h
  dsimp only at h
  split at h
  · split at h <;> cases h; rfl
  · split at h <;> cases h; rfl
  · split at h <;> cases h; rfl
  · cases h; rfl

theorem decode_token_ofPhase (bs : List Bool) : OfPhase none (decode .token bs) :=
  ofPhase_need fun _ r => by
    split
    · exact ofPhase_ok (tokenInstr_phase ‹_›) r
    · exact ofPhase_illegal

theorem decode_lz4Seq_ofPhase (bs : List Bool) : OfPhase none (decode .lz4Seq bs) := by
  rw [decode]
  unfold decodeSeqBytes
  split
  · exact ofPhase_bad _
  · split
    · exact ofPhase_bad _
    · split
      · exact ofPhase_bad _
      · split
        · exact ofPhase_ok rfl _
        · exact ofPhase_ok rfl _
        · split <;> exact ofPhase_ok rfl _

theorem isOuter_phase {i : Instr} (h : isOuter i = true) : elemPhase i = none := by
  simp only [isOuter, Bool.or_eq_true, beq_iff_eq] at h
  unfold elemPhase
  obtain (h | h) | h := h <;> rw [h]

/-! ### Every element -/

/-- A session is where the element can come: in the element's phase, if it is one of a decompressed stream. -/
def Due (i : Instr) (s : State) : Prop := ∀ p, elemPhase i = some p → Reading p s

theorem exec_proceeds {i : Instr} {s : State} (hw : wantInPhase s = true) (hdue : Due i s) :
    Answers (Proceeds s) (exec i s) := by
  have stay {o : Res} (h : Answers (SameStage s) o) : Answers (Proceeds s) o := h.mono fun _ k => k.proceeds hw
  cases i with
  | nop | cmdReserved5 | cmdReserved6to7 lo | cmdReserved8to15 lo => exact answers_next ((SameStage.refl s).proceeds hw)
  | startCompress | startDecompress => exact fun _ => startCommand_proceeds hw
  | cancel => exact stay fun _ => execCancel_sameStage
  | softReset => exact answers_next (resetMachine_proceeds s)
  | cfgCodecDeflate | cfgCodecZlib | cfgCodecGzip | cfgCodecLz4 | cfgCodecSnappy | cfgCodecZstd
  | cfgCodecReserved lo | cfgCkselNone | cfgCkselCrc32 | cfgCkselAdler32 | cfgCkselReserved3 | cfgTreeStored
  | cfgTreeFixed | cfgTreeDynamic | cfgTreeReserved3 | cfgLazy0 | cfgLazy1 | cfgIomodeBuffer | cfgIomodeStream =>
    exact stay (answers_next (setCfg_sameStage _ _ _ s))
  | beatData b | beatDataLast b => exact stay fun _ => takeBeat_sameStage
  | beatEndEmpty => exact stay fun _ => execBeatEndEmpty_sameStage
  | lit b => exact stay (execLit_staysIn b s)
  | matchTok off len => exact stay (execMatchTok_staysIn off len s)
  | eob => exact stay (execEob_staysIn s)
  | tokenReserved x => exact answers_refused _ _
  | lz4Sequence lits mat => exact stay (execLz4Sequence_staysIn lits mat s)
  | lz4LastSequence lits => exact stay (execLz4LastSequence_staysIn lits s)
  | zlibHeader cmf flg => exact execZlibHeader_leadsOn (hdue _ rfl) cmf flg
  | gzipHeader id1 id2 cm flg mtime xfl os x n c crc16 => 
    exact execGzipHeader_leadsOn (hdue _ rfl) id1 id2 cm flg mtime xfl os x n c crc16
  | lz4Magic => exact answers_next (hdue _ rfl).wants
  | lz4MagicSkippable lo => exact answers_next ((hdue _ rfl).raise _)
  | lz4Descriptor flg bd csize dict hc => exact execLz4Descriptor_leadsOn (hdue _ rfl) flg bd csize dict hc
  | snpPreamble bs => exact execSnpPreamble_leadsOn (hdue _ rfl) bs
  | dflBlockStored f | dflBlockFixed f | dflBlockDynamic f => exact answers_next (hdue _ rfl).wants
  | dflBlockReserved f => exact answers_next ((hdue _ rfl).raise _)
  | dflStoredBody len nlen data => exact execDflStoredBody_leadsOn (hdue _ rfl) len nlen data
  | dflDynHeader hlit hdist hclen cl => exact execDflDynHeader_leadsOn (hdue _ rfl) hlit hdist hclen cl
  | llLiteral b => exact stay (answers_next (litOut_sameStage b s))
  | llEob => exact answers_next (blockEnd_proceeds (hdue _ rfl))
  | llLen257 | llLen258 | llLen259 | llLen260 | llLen261 | llLen262 | llLen263 | llLen264 | llLen265 e | llLen266 e
  | llLen267 e | llLen268 e | llLen269 e | llLen270 e | llLen271 e | llLen272 e | llLen273 e | llLen274 e | llLen275 e
  | llLen276 e | llLen277 e | llLen278 e | llLen279 e | llLen280 e | llLen281 e | llLen282 e | llLen283 e | llLen284 e
  | llLen285 => exact answers_next (hdue _ rfl).wants
  | llIllegal lo | dIllegal lo => exact answers_next ((hdue _ rfl).raise _)
  | dDist0 | dDist1 | dDist2 | dDist3 | dDist4 e | dDist5 e | dDist6 e | dDist7 e | dDist8 e | dDist9 e | dDist10 e
  | dDist11 e | dDist12 e | dDist13 e | dDist14 e | dDist15 e | dDist16 e | dDist17 e | dDist18 e | dDist19 e
  | dDist20 e | dDist21 e | dDist22 e | dDist23 e | dDist24 e | dDist25 e | dDist26 e
  | dDist27 e | dDist28 e | dDist29 e =>
    exact distanceSym_leadsOn (hdue _ rfl) _ _
  | clLen0 | clLen1 | clLen2 | clLen3 | clLen4 | clLen5 | clLen6 | clLen7 | clLen8 | clLen9 | clLen10 | clLen11
  | clLen12 | clLen13 | clLen14 | clLen15 => exact answers_next (appendLens_proceeds (hdue _ rfl) _ _)
  | clRepPrev e => exact execClRepPrev_leadsOn (hdue _ rfl) e
  | clRepZeroShort e | clRepZeroLong e => exact answers_next (repeatLens_proceeds (hdue _ rfl) _ _)
  | lz4BlockCompressed size data ck | lz4BlockStored size data ck => exact lz4Block_leadsOn (hdue _ rfl) _ size data ck
  | lz4Endmark => exact answers_next (hdue _ rfl).wants
  | snpLiteral m ext data => exact execSnpLiteral_leadsOn (hdue _ rfl) m ext data
  | snpCopy1 l o | snpCopy2 l o | snpCopy4 l o => exact snpCopy_leadsOn (hdue _ rfl) _ _
  | zlibTrailer v | lz4ContentChecksum v => exact answers_next (compared_proceeds (hdue _ rfl) _ _)
  | gzipTrailer crc isize => exact execGzipTrailer_leadsOn (hdue _ rfl) crc isize

/-! ### Every turn -/

/-- What a turn comes to in a state before which it is due. -/
def TurnProceeds (s : State) : Fetched → Prop
  | .elem i s' => SameStage s s' ∧ Due i s'
  | .act t => Proceeds s t
  | .fault _ => True
  | .refuse _ => True

theorem due_of_none {i : Instr} (h : elemPhase i = none) (s : State) : Due i s := fun _ hp => by
  rw [h] at hp; cases hp

theorem tokenTurn_proceeds (e : Nat) (g : Engine) (s : State) : TurnProceeds s (tokenTurn e g s) := by
  unfold tokenTurn
  split
  · trivial
  · split
    · next hd => exact ⟨{}, due_of_none (decode_token_ofPhase _ _ _ hd) _⟩
    · trivial

theorem collectDone_sameStage (e : Nat) (g : Engine) (s : State) : SameStage s (collectDone e g s) := by
  have written (s1 : State) (h : SameStage s s1) : SameStage s (setEngine e (idleEngine g)
      { emit g.result.bytes s1 with
        regs := { s1.regs with blockCount := s1.regs.blockCount + 1 }, nextCollect := s1.nextCollect + 1 }) :=
    (h.trans (emit_sameStage g.result.bytes s1)).trans {}
  unfold collectDone
  cases s.dir with
  | compress => exact written s (.refl s)
  | decompress => exact written _ ((ckTake_sameStage g.result.bytes s).trans {})

section
variable {s : State} {f : Fetched} (hw : wantInPhase s = true)

theorem intakeTurn_proceeds (h : intakeTurn s = some f) : TurnProceeds s f := by
  unfold intakeTurn at h
  split at h
  · split at h
    · cases h
    · split at h
      · cases h; trivial
      · next i hi =>
        cases h
        exact ⟨{}, due_of_none (isOuter_phase (beatElem_isOuter hi)) _⟩
  · cases h

include hw

theorem dispatcherTurn_proceeds (h : dispatcherTurn s = some f) : TurnProceeds s f := by
  unfold dispatcherTurn at h
  split at h
  · split at h
    · cases h
    · split at h
      · cases h; trivial
      · split at h
        · cases h
          exact SameStage.proceeds {} hw
        · cases h
  · cases h

theorem collectorTurn_proceeds (h : collectorTurn s = some f) : TurnProceeds s f := by
  unfold collectorTurn at h
  split at h
  · next hb =>
    split at h
    · cases h; exact cancelSession_proceeds hb.1
    · split at h
      · cases h
      · split at h
        · cases h
        · split at h
          · split at h
            · cases h; exact (collectDone_sameStage _ _ s).proceeds hw
            · cases h; exact failWith_proceeds hb.1 _ _ _ _
            · cases h
            · cases h
          · cases h
  · cases h

theorem engineAct_proceeds (e : Nat) (o : Option Engine) : TurnProceeds s (engineAct e s o) := by
  cases o with
  | none => trivial
  | some g => exact (setEngine_sameStage e g s).proceeds hw

theorem sequenceTurn_proceeds (e : Nat) (g : Engine) : TurnProceeds s (sequenceTurn e g s) := by
  unfold sequenceTurn
  split
  · trivial
  · split
    · next hd => exact ⟨{}, due_of_none (decode_lz4Seq_ofPhase _ _ _ hd) _⟩
    · exact (setEngine_sameStage e _ s).proceeds hw
    · exact (setEngine_sameStage e _ s).proceeds hw
    · trivial

theorem engineTurn_proceeds {e : Nat} (h : engineTurn e s = some f) : TurnProceeds s f := by
  unfold engineTurn at h
  split at h
  · cases h
  · split at h
    · split at h <;> cases h
      · exact engineAct_proceeds hw e _
      · exact engineAct_proceeds hw e _
      · exact tokenTurn_proceeds e _ s
      · exact tokenTurn_proceeds e _ s
      · exact sequenceTurn_proceeds hw e _
    · cases h

/-- A compression wants no element (R387). -/
theorem want_of_compress (hd : s.dir = .compress) : s.want = .nothing := by
  rw [wantInPhase_eq, hd, wantStands, wantInPhase, Bool.and_eq_true] at hw
  simpa using hw.1

theorem compressTurn_proceeds (hb : busy s = true) (hd : s.dir = .compress) (h : compressTurn s = some f) :
    TurnProceeds s f := by
  have hn := want_of_compress hw hd
  unfold compressTurn at h
  split at h
  · next hph =>
    split at h
    · cases h; exact failSession_proceeds hb _
    · split at h
      · cases h
      · cases h
        exact proceeds_of_nothing (by rw [hph]; rfl) ((emit_want _ s).trans hn)
  · next hph =>
    split at h
    · cases h; exact proceeds_of_nothing (by rw [hph]; rfl) hn
    · cases h
  · next hph =>
    cases h
    exact .after (completeSession_proceeds ((emit_phase _ s).trans hph)) (emit_phase _ s)
  · cases h
  · cases h
  · cases h
  · cases h

end

section
variable {s : State} {f : Fetched}

theorem readElem_proceeds {c : Ctx} (h : Reading s.phase s) (hc : wantCtx s = some c)
    (hraw : ¬ (s.phase = .header ∧ s.want = .dflHdr)) (he : readElem c s = some f) : TurnProceeds s f := by
  have hn : s.want ≠ .nothing := fun hn => by rw [wantCtx, hn] at hc; cases hc
  unfold readElem at he
  split at he
  · next i r hd =>
    cases he
    refine ⟨{}, fun p hp => ?_⟩
    rw [decode_ofPhase hc _ i r hd, (readPhase_of_wantInPhase h.want hn).resolve_right hraw] at hp
    cases hp
    exact h.of_sameStage {}
  · split at he
    · cases he; exact h.raise _
    · cases he
  · cases he; exact h.raise _
  · cases he; trivial

theorem lz4Drained_proceeds (h : Reading .body s) : Proceeds s (lz4Drained s) := by
  unfold lz4Drained
  dsimp only
  split
  · have ht := failSession_proceeds (s := { s with phase := .trailer }) rfl .lz4ContentSize
    exact ⟨h.phase ▸ by rfl, ht.2⟩
  · split <;> exact h.leads

theorem trailingTurn_proceeds (h : Reading .trailer s) (ht : trailingTurn s = some f) : TurnProceeds s f := by
  unfold trailingTurn at ht
  split at ht
  · cases ht; exact h.raise _
  · split at ht
    · cases ht; exact completeSession_proceeds h.phase
    · cases ht

theorem decompressTurn_proceeds (h : Reading s.phase s) (ht : decompressTurn s = some f) : TurnProceeds s f := by
  have inPhase {w : Want} {p : Phase} (hs : s.want = w) (hr : readPhase w = some p)
      (hraw : ¬ (s.phase = .header ∧ s.want = .dflHdr)) : Reading p s := by
    obtain hp | hp := readPhase_of_wantInPhase h.want (by rintro hn; rw [hs] at hn; subst hn; cases hr)
    · rw [hs, hr] at hp
      cases hp
      exact h
    · exact absurd hp hraw
  unfold decompressTurn at ht
  split at ht
  · cases ht; exact cancelSession_proceeds h.busy
  · split at ht
    · split at ht
      · cases ht; exact failSession_proceeds h.busy _
      · cases ht
    · split at ht
      · next hraw =>
        cases ht
        obtain ⟨hph, hwant⟩ := hraw
        rw [hph] at h
        exact h.leads (hw := hwant)
      · next hraw =>
        split at ht
        · next hdrain =>
          split at ht
          · cases ht; exact lz4Drained_proceeds (inPhase hdrain rfl hraw)
          · cases ht
        · split at ht
          · next htrail => exact trailingTurn_proceeds (inPhase htrail rfl hraw) ht
          · split at ht
            · next hsnp =>
              cases ht
              exact (inPhase hsnp.1 rfl hraw).leads
            · split at ht
              · cases ht
              · next hc => exact readElem_proceeds h hc hraw ht

end

section
variable {s : State} (hw : wantInPhase s = true)
include hw

theorem sequencerTurn_proceeds {f : Fetched} (h : sequencerTurn s = some f) : TurnProceeds s f := by
  unfold sequencerTurn at h
  split at h
  · next hb =>
    split at h
    · next hd => exact compressTurn_proceeds hw hb hd h
    · next hd => exact decompressTurn_proceeds ⟨hb, hd, rfl, hw⟩ h
  · cases h

theorem agentTurn_proceeds {a : Agent} {f : Fetched} (h : agentTurn a s = some f) : TurnProceeds s f := by
  cases a with
  | collector => exact collectorTurn_proceeds hw h
  | engine e => exact engineTurn_proceeds hw h
  | dispatcher => exact dispatcherTurn_proceeds hw h
  | sequencer => exact sequencerTurn_proceeds hw h
  | intake => exact intakeTurn_proceeds h

/-- A turn that changes nothing of the stage. -/
theorem turnProceeds_act {t : State} (h : SameStage s t := by exact {}) : TurnProceeds s (.act t) := h.proceeds hw

theorem firstEnabled_proceeds (as : List Agent) : TurnProceeds s (firstEnabled s as) := by
  induction as with
  | nil => exact turnProceeds_act hw
  | cons a as ih =>
    unfold firstEnabled
    split
    · next hf => exact agentTurn_proceeds hw hf
    · exact ih

theorem regWrite_proceeds (off : Nat) (v : Word) : TurnProceeds s (regWrite off v s) := by
  unfold regWrite
  split
  · exact ⟨{}, due_of_none (isOuter_phase (cmdInstr_isOuter _)) s⟩
  all_goals exact turnProceeds_act hw

theorem hostTurn_proceeds (op : HostOp) : TurnProceeds s (hostTurn op s) := by
  cases op with
  | write width off v =>
    unfold hostTurn
    dsimp only
    split
    · exact regWrite_proceeds hw off v
    · trivial
  | read width off =>
    unfold hostTurn
    dsimp only
    split
    · exact turnProceeds_act hw
    · trivial
  | send b => exact turnProceeds_act hw
  | take =>
    unfold hostTurn
    dsimp only
    split <;> exact turnProceeds_act hw
  | reset => exact resetMachine_proceeds s

theorem turnFetch_proceeds (t : Turn) : TurnProceeds s (turnFetch t s) := by
  cases t with
  | core => exact firstEnabled_proceeds hw _
  | agent a =>
    unfold turnFetch
    dsimp only
    split
    · next hf => exact agentTurn_proceeds hw hf
    · exact turnProceeds_act hw
  | host op => exact hostTurn_proceeds hw op
  | cfgField f v => exact ⟨{}, due_of_none (isOuter_phase (cfgInstr_isOuter f _)) s⟩

theorem fetch_proceeds : TurnProceeds s (fetch s) := by
  unfold fetch
  split
  · exact turnFetch_proceeds hw .core
  · next t rest _ =>
    have h : TurnProceeds { s with agenda := rest } (turnFetch t { s with agenda := rest }) :=
      turnFetch_proceeds (s := { s with agenda := rest }) hw t
    cases hf : turnFetch t { s with agenda := rest } with
    | elem i s' => rw [hf] at h; exact ⟨SameStage.trans {} h.1, h.2⟩
    | act u => rw [hf] at h; exact .after h
    | fault r => trivial
    | refuse r => trivial

theorem step_proceeds {t : State} (h : step s = .next t) : Proceeds s t := by
  have hf := fetch_proceeds hw
  unfold step at h
  split at h
  · next i s' he =>
    rw [he] at hf
    obtain ⟨same, hdue⟩ := hf
    exact .after (exec_proceeds (same.wantInPhase hw) hdue t h) same.phase
  · next u he =>
    rw [he] at hf
    cases h
    exact hf
  · cases h
  · cases h

end

/-- Settles O57: each turn leads on from the stage of its session, and each element from the phase in which it is
read. -/
theorem phaseMovesAsListed : Obligations.PhaseMovesAsListed := fun _ _ hw h => step_proceeds hw h

end Sys2Proof.Proofs


/-! PROOFS. The host commands: a start (O15, O16) with its configuration check (O17), the commands that start nothing
(O18), and a cancel that takes effect (O19). -/

namespace Sys2Proof.Proofs

open Machine Safety Laws

/-! ### Start commands and the commands that start nothing (R380, R381, R385, R400) -/

theorem startCommand_busy {s : State} (h : busy s = true) (d : Dir) : startCommand d s = .next s := by
  rw [startCommand, if_pos h]

theorem startCommand_idle {s : State} (h : busy s = false) (d : Dir) : startCommand d s = .next (startSession d s) := by
  rw [startCommand, if_neg (Bool.eq_false_iff.mp h)]

theorem execCancel_eq (s : State) : execCancel s = .next (if busy s then { s with cancelReq := true } else s) := rfl

/-- Settles O15: a start command is one `startCommand`, which asks only whether a session is busy. -/
theorem startIsIgnoredWhileBusy : Obligations.StartIsIgnoredWhileBusy := fun _ =>
  ⟨fun h => ⟨startCommand_busy h .compress, startCommand_busy h .decompress⟩,
    fun h => ⟨startCommand_idle h .compress, startCommand_idle h .decompress⟩⟩

/-- Settles O18: `NOP` and the reserved meanings are the identity, and `CANCEL` asks only whether a session is busy. -/
theorem commandsThatStartNothing : Obligations.CommandsThatStartNothing := fun s _ _ =>
  ⟨rfl, rfl, rfl, rfl, fun h => (execCancel_eq s).trans (by rw [h]; rfl),
    fun h => (execCancel_eq s).trans (by rw [h]; rfl)⟩

/-! ### The check of the configuration (R384) -/

theorem codecOf_eq_zstd_iff (cfg : Word) : codecOf cfg = .zstd ↔ fieldOf cfg 0 3 = 5 := by
  unfold codecOf
  split <;> simp_all

/-- The codecs that may have a window of 64 KiB (R10), for a codec number that is not reserved. -/
theorem isDeflate_codecOf {cfg : Word} (h : fieldOf cfg 0 3 < 5) :
    (codecOf cfg).isDeflate = false ↔ fieldOf cfg 0 3 = 3 ∨ fieldOf cfg 0 3 = 4 := by
  unfold codecOf
  generalize fieldOf cfg 0 3 = n at h ⊢
  interval_cases n <;> simp [Codec.isDeflate]

theorem windowLegal_iff (c : Codec) (w : Nat) :
    windowLegal c w = true ↔
      w = 1 ∨ w = 2 ∨ w = 4 ∨ w = 8 ∨ w = 16 ∨ w = 32 ∨ (w = 64 ∧ c.isDeflate = false) := by
  simp only [windowLegal, Bool.or_eq_true, Bool.and_eq_true, beq_iff_eq, Bool.not_eq_true', or_assoc]

/-- What a start command leads to, by the first test of the configuration that fails (R384, R440). -/
def CheckOutcome (o : Option Detail) (s t : State) : Prop :=
  o.elim (t.phase = .header) fun d =>
    t.phase = .failed ∧ t.errcode = kindCode (detailKind d) ∧
      t.regs.errinfo = BitVec.ofNat 32 (detailCode d).toNat ∧ t.regs.errblock = 0xFFFFFFFF ∧
      t.outp = s.outp ++ [endBeat] ∧ t.regs.outCount = 0 ∧ t.regs.cksum = 0

/-- Nothing has been produced by a session that fails at its start. -/
theorem failSession_initSession (e : Detail) (d : Dir) (s : State) :
    CheckOutcome (some e) s (failSession e (initSession d s)) := by
  obtain ⟨hphase, herr, hinfo, hblk, hck, hcount, -, -, hout, -⟩ :=
    failSession_failedAs (s := initSession d s) rfl e
  refine ⟨hphase, herr, ?_, hblk, ?_, ?_, hck⟩
  · rw [hinfo]; rfl
  · rw [hout]
    cases streamMode (initSession d s) <;> exact congrArg (· ++ [endBeat]) (List.append_nil _)
  · rw [hcount]
    exact ite_self 0

theorem checkOutcome_startSession (d : Dir) (s : State) :
    CheckOutcome (cfgCheck s.params (sampleCfg s.regs)) s (startSession d s) := by
  obtain ⟨hc, h⟩ | ⟨e, hc, h⟩ := startSession_cases d s
  · rw [hc, h]; rfl
  · rw [hc, h]; exact failSession_initSession e d s

theorem checkOutcome_ite {p : Prop} [Decidable p] {d : Detail} {o : Option Detail} {s t : State} :
    CheckOutcome (if p then some d else o) s t ↔ if p then CheckOutcome (some d) s t else CheckOutcome o s t := by
  split <;> rfl

/-- The window test on the numbers of the registers, for a codec number that is not reserved (R10, R384). -/
theorem window_test_iff {c : Scfg} (h : ¬ 5 < fieldOf c.cfg 0 3) :
    (codecOf c.cfg ≠ .zstd ∧ windowLegal (codecOf c.cfg) c.windowKib.toNat = false) ↔
      fieldOf c.cfg 0 3 ≠ 5 ∧ ¬ (c.windowKib.toNat = 1 ∨ c.windowKib.toNat = 2 ∨ c.windowKib.toNat = 4 ∨
        c.windowKib.toNat = 8 ∨ c.windowKib.toNat = 16 ∨ c.windowKib.toNat = 32 ∨
        (c.windowKib.toNat = 64 ∧ (fieldOf c.cfg 0 3 = 3 ∨ fieldOf c.cfg 0 3 = 4))) := by
  rw [ne_eq, codecOf_eq_zstd_iff]
  refine and_congr_right fun h5 => ?_
  rw [← isDeflate_codecOf (by omega), ← windowLegal_iff, Bool.not_eq_true]

/-- The tests of R384 in order, on the numbers of the registers. -/
theorem cfgCheck_eq (p : Params) (c : Scfg) :
    cfgCheck p c =
      if 5 < fieldOf c.cfg 0 3 then some .cfgCodec
      else if 2 < fieldOf c.cfg 4 2 then some .cfgCksel
      else if 2 < fieldOf c.cfg 8 2 then some .cfgTree
      else if c.blockKib.toNat < 1 ∨ 4096 < c.blockKib.toNat then some .cfgBlock
      else if c.engines.toNat < 1 ∨ p.nmax < c.engines.toNat then some .cfgEngines
      else if fieldOf c.cfg 0 3 ≠ 5 ∧ ¬ (c.windowKib.toNat = 1 ∨ c.windowKib.toNat = 2 ∨ c.windowKib.toNat = 4 ∨
        c.windowKib.toNat = 8 ∨ c.windowKib.toNat = 16 ∨ c.windowKib.toNat = 32 ∨
        (c.windowKib.toNat = 64 ∧ (fieldOf c.cfg 0 3 = 3 ∨ fieldOf c.cfg 0 3 = 4))) then some .cfgWindow
      else if fieldOf c.cfg 0 3 = 5 then some .zstdCodec
      else none := by
  unfold cfgCheck
  by_cases h : 5 < fieldOf c.cfg 0 3
  · rw [if_pos h, if_pos h]
  · simp only [if_neg h, window_test_iff h, codecOf_eq_zstd_iff]
    rfl

/-- Settles O17: the check is that of `cfgCheck`, whose tests are those of R384 on the numbers of the registers. -/
theorem configCheckFailsInOrder : Obligations.ConfigCheckFailsInOrder := by
  intro s hb
  refine ⟨_, _, startCommand_idle hb .compress, startCommand_idle hb .decompress, fun t ht => ?_⟩
  have h : CheckOutcome (cfgCheck s.params (sampleCfg s.regs)) s t := by
    obtain rfl | rfl := ht
    · exact checkOutcome_startSession .compress s
    · exact checkOutcome_startSession .decompress s
  simp only [cfgCheck_eq, checkOutcome_ite] at h
  exact h

/-! ### A session begins (R385) -/

theorem startSession_of_check {s : State} (h : cfgCheck s.params (sampleCfg s.regs) = none) (d : Dir) :
    startSession d s = initSession d s := by
  obtain ⟨-, hs⟩ | ⟨e, hc, -⟩ := startSession_cases d s
  · exact hs
  · rw [h] at hc; cases hc

theorem startCommand_begins {s : State} (hb : busy s = false) (h : cfgCheck s.params (sampleCfg s.regs) = none)
    (d : Dir) : startCommand d s = .next (initSession d s) := by
  rw [startCommand_idle hb, startSession_of_check h]

/-- Settles O16: with a configuration that passes, the command is `initSession`, whose items are read off. -/
theorem startInitialisesTheSession : Obligations.StartInitialisesTheSession := by
  intro s hb hc
  refine ⟨_, _, startCommand_begins hb hc .compress, startCommand_begins hb hc .decompress, rfl, rfl, rfl, rfl,
    fun t ht => ?_⟩
  obtain ⟨d, rfl⟩ : ∃ d, t = initSession d s := ht.elim (⟨_, ·⟩) (⟨_, ·⟩)
  exact ⟨rfl, rfl, rfl, rfl, rfl, rfl, rfl, rfl, rfl, rfl, rfl, rfl, rfl, rfl, rfl, fun _ => List.getElem?_map,
    rfl, rfl, rfl, rfl, rfl, rfl, rfl⟩

/-! ### A cancel takes effect (R400) -/

/-- What a cancel that takes effect leaves of the session (R400, R383, R39). -/
structure Cancelled (s t : State) : Prop where
  phase : t.phase = .cancelled
  errcode : t.errcode = 0
  cksum : t.regs.cksum = 0
  outCount : t.regs.outCount = if streamMode s then s.outcnt else 0
  inCount : t.regs.inCount.toNat ≤ suppliedBytes s
  blockCount : t.regs.blockCount.toNat ≤ blockBound s
  outp : t.outp = s.outp ++ (if streamMode s then openBeats s.stage else []) ++ [endBeat]
  pool : AllIdle t
  dropped : t.blockQ = [] ∧ t.asm = [] ∧ t.stage = [] ∧ t.dir = s.dir

theorem cancelSession_cancelled (s : State) : Cancelled s (cancelSession s) where
  phase := rfl
  errcode := rfl
  cksum := rfl
  outCount := rfl
  inCount := ofNat_freeBelow_le _ _ _
  blockCount := ofNat_freeBelow_le _ _ _
  outp := rfl
  pool g hg := by
    obtain ⟨k, -, rfl⟩ := List.mem_map.mp hg
    rfl
  dropped := ⟨rfl, rfl, rfl, rfl⟩

theorem dir_of_no_units {s : State} (h : hasUnits s = false) : s.dir = .decompress := by
  unfold hasUnits at h
  split at h
  · cases h
  · assumption

section
variable {s : State} (hb : busy s = true) (hcan : s.cancelReq = true)
include hb hcan

theorem agentTurn_collector_cancels (hu : hasUnits s = true) :
    agentTurn .collector s = some (.act (cancelSession s)) := by
  rw [agentTurn, collectorTurn, if_pos ⟨hb, hu⟩, if_pos hcan]

theorem agentTurn_sequencer_cancels (hu : hasUnits s = false) :
    agentTurn .sequencer s = some (.act (cancelSession s)) := by
  rw [agentTurn_sequencer hb (dir_of_no_units hu), decompressTurn, if_pos ⟨hcan, hu⟩]

end

/-- Settles O19: the turn of the agent that answers for the units of the session is `cancelSession`. -/
theorem cancelEndsTheSession : Obligations.CancelEndsTheSession := by
  intro s rest a hb hcan ha hag
  have hturn : agentTurn a { s with agenda := rest } = some (.act (cancelSession { s with agenda := rest })) := by
    obtain ⟨hu, rfl⟩ | ⟨hu, rfl⟩ := ha
    · exact agentTurn_collector_cancels (s := { s with agenda := rest }) hb hcan hu
    · exact agentTurn_sequencer_cancels (s := { s with agenda := rest }) hb hcan hu
  obtain ⟨hphase, herr, hck, hout, hin, hblk, houtp, hpool, hdropped⟩ :=
    cancelSession_cancelled { s with agenda := rest }
  exact ⟨_, step_of_act hag (turnFetch_of_some hturn), hphase, herr, hck, hout, hin, hblk, houtp, hpool, hdropped⟩

end Sys2Proof.Proofs


/-! PROOFS. The beats of the input port: of a decompression and of no session (O22), and of a compression, which cuts
blocks (O23). -/

namespace Sys2Proof.Proofs

open Machine Safety Laws

/-! ### Who takes a beat (R61, R397) -/

section
variable {s : State} (b : Byte)

theorem takeBeat_discarded (h : 0 < s.discard) (last : Bool) :
    takeBeat b last s = .next (if last then { s with discard := s.discard - 1 } else s) := by
  rw [takeBeat, if_pos h]

theorem execBeatEndEmpty_discarded (h : 0 < s.discard) :
    execBeatEndEmpty s = .next { s with discard := s.discard - 1 } := by
  rw [execBeatEndEmpty, if_pos h]

/-- A session takes input while it is busy and its stream has not ended. -/
theorem takes_iff (s : State) : (busy s && !s.inEnded) = true ↔ busy s = true ∧ s.inEnded = false := by
  rw [Bool.and_eq_true, Bool.not_eq_true']

theorem not_takes (h : busy s = false ∨ s.inEnded = true) : ¬ (busy s && !s.inEnded) = true := by
  rw [takes_iff]
  rintro ⟨hb, he⟩
  rw [hb, he] at h
  exact h.elim nofun nofun

variable (h0 : s.discard = 0)
include h0

theorem takeBeat_untaken (h : busy s = false ∨ s.inEnded = true) (last : Bool) : takeBeat b last s = .next s := by
  rw [takeBeat, if_neg (by omega), if_neg (not_takes h)]

theorem execBeatEndEmpty_untaken (h : busy s = false ∨ s.inEnded = true) : execBeatEndEmpty s = .next s := by
  rw [execBeatEndEmpty, if_neg (by omega), if_neg (not_takes h)]

variable (hb : busy s = true) (he : s.inEnded = false)
include hb he

theorem takeBeat_decompress (hd : s.dir = .decompress) (last : Bool) :
    takeBeat b last s = .next { s with incnt := s.incnt + 1, strm := s.strm ++ [b], inEnded := last } := by
  rw [takeBeat, if_neg (by omega), if_pos ((takes_iff s).mpr ⟨hb, he⟩), hd]

theorem execBeatEndEmpty_decompress (hd : s.dir = .decompress) :
    execBeatEndEmpty s = .next { s with inEnded := true } := by
  rw [execBeatEndEmpty, if_neg (by omega), if_pos ((takes_iff s).mpr ⟨hb, he⟩)]
  simp only [hd]

theorem takeBeat_compress (hd : s.dir = .compress) (last : Bool) : takeBeat b last s = takeRaw b last s := by
  rw [takeBeat, if_neg (by omega), if_pos ((takes_iff s).mpr ⟨hb, he⟩), hd]

end

/-- Settles O22: the first taker of a beat is a stream being discarded, then the session, then nobody. -/
theorem beatsOfADecompression : Obligations.BeatsOfADecompression := fun _ b =>
  ⟨fun h => ⟨takeBeat_discarded b h false, takeBeat_discarded b h true, execBeatEndEmpty_discarded h⟩,
    fun h0 h => ⟨takeBeat_untaken b h0 h false, takeBeat_untaken b h0 h true, execBeatEndEmpty_untaken h0 h⟩,
    fun h0 hb he hd => ⟨takeBeat_decompress b h0 hb he hd false, takeBeat_decompress b h0 hb he hd true,
      execBeatEndEmpty_decompress h0 hb he hd⟩⟩

/-! ### Cutting blocks (R388, R389, R486) -/

/-- The state after block `nextCut` has joined the queue (R388). -/
def withBlock (isFinal : Bool) (s : State) : State :=
  { s with asm := [], nextCut := s.nextCut + 1,
           blockQ := s.blockQ ++ [{ bytes := s.asm, start := BitVec.ofNat 64 (s.nextCut.toNat * blockBytes s),
                                    isFinal := isFinal, stored := false, ck := none }] }

theorem cutBlock_refused {s : State} (h : s.nextCut = 0xFFFFFFFF) (isFinal : Bool) :
    cutBlock isFinal s = .refused .tooManyBlocks := if_pos h

theorem cutBlock_next {s : State} (h : s.nextCut ≠ 0xFFFFFFFF) (isFinal : Bool) :
    cutBlock isFinal s = .next (withBlock isFinal s) := if_neg h

/-- A byte counted, accumulated and gathered (R388, R164). -/
def gathered (b : Byte) (last : Bool) (s : State) : State :=
  { s with incnt := s.incnt + 1, inEnded := last, asm := s.asm ++ [b],
           crc := if effectiveCk s = .crc32 then crcByte s.crc b else s.crc,
           adler := if effectiveCk s = .adler32 then adlerByte s.adler b else s.adler }

theorem ckTake_eq_gathered (b : Byte) (last : Bool) (s : State) :
    ckTake [b] { s with incnt := s.incnt + 1, asm := s.asm ++ [b], inEnded := last } = gathered b last s := by
  rw [ckTake_eq, ckTake_crc, ckTake_adler]
  rfl

theorem isDeflate_iff (c : Codec) : c.isDeflate = true ↔ c = .deflate ∨ c = .zlib ∨ c = .gzip := by
  cases c <;> simp [Codec.isDeflate]

theorem exec_dataBeat (b : Byte) (last : Bool) (s : State) :
    exec (if last then .beatDataLast b else .beatData b) s = takeBeat b last s := by
  cases last <;> rfl

section
variable {s : State} {b : Byte} {last : Bool}

/-- The last byte, and the byte that fills the block, closes it (R388). -/
theorem takeRaw_closes (h : last = true ∨ s.scfg.blockKib.toNat * 1024 ≤ s.asm.length + 1) :
    takeRaw b last s = cutBlock last (gathered b last s) := by
  rw [takeRaw, ckTake_eq_gathered]
  exact if_pos (by rwa [gathered, List.length_append, List.length_singleton])

theorem takeRaw_gathers (h : ¬ (last = true ∨ s.scfg.blockKib.toNat * 1024 ≤ s.asm.length + 1)) :
    takeRaw b last s = .next (gathered b last s) := by
  rw [takeRaw, ckTake_eq_gathered]
  exact if_neg (by rwa [gathered, List.length_append, List.length_singleton])

/-- An empty beat closes the block being gathered; with none, only the DEFLATE family gets a block (R389; log entry
12). -/
theorem execBeatEndEmpty_compress (h0 : s.discard = 0) (hb : busy s = true) (he : s.inEnded = false)
    (hd : s.dir = .compress) :
    execBeatEndEmpty s =
      if s.asm ≠ [] ∨ codec s = .deflate ∨ codec s = .zlib ∨ codec s = .gzip then
        cutBlock true { s with inEnded := true }
      else .next { s with inEnded := true } := by
  rw [execBeatEndEmpty, if_neg (by omega), if_pos ((takes_iff s).mpr ⟨hb, he⟩)]
  simp only [hd, isDeflate_iff, or_comm (b := s.asm ≠ [])]

end

/-- Settles O23: a data beat is `takeRaw`, and the blocks are cut by `cutBlock`, which refuses the index 0xFFFFFFFF. -/
theorem compressionCutsBlocks : Obligations.CompressionCutsBlocks := by
  intro s b h0 hb he hd
  have hbeat (last : Bool) : exec (if last then .beatDataLast b else .beatData b) s = takeRaw b last s :=
    (exec_dataBeat b last s).trans (takeBeat_compress b h0 hb he hd last)
  have hempty : exec .beatEndEmpty s = _ := execBeatEndEmpty_compress h0 hb he hd
  refine ⟨fun last hfree => ?_, fun hasm hcut => ?_, fun hcut _ => ?_, fun hcut => ⟨fun last hcl => ?_, ?_⟩⟩
  · rw [hbeat]
    by_cases hcl : last = true ∨ s.scfg.blockKib.toNat * 1024 ≤ s.asm.length + 1
    · simp only [if_pos hcl]
      exact ⟨_, (takeRaw_closes hcl).trans (cutBlock_next (s := gathered b last s) (hfree hcl) last), rfl, rfl, rfl,
        rfl, ⟨rfl, rfl, rfl⟩, rfl⟩
    · simp only [if_neg hcl]
      exact ⟨_, takeRaw_gathers hcl, rfl, rfl, rfl, rfl, ⟨rfl, rfl, rfl⟩, rfl⟩
  · have hfree : s.nextCut ≠ 0xFFFFFFFF := by rw [hcut]; decide
    rw [hempty, cutBlock_next (s := { s with inEnded := true }) hfree]
    simp only [hasm, ne_eq, not_true_eq_false, false_or]
    split_ifs
    · simp only [withBlock, hcut]; rfl
    · rfl
  · rw [hempty, cutBlock_next (s := { s with inEnded := true }) hcut]
    split_ifs <;> rfl
  · rw [hbeat, takeRaw_closes hcl, cutBlock_refused (s := gathered b last s) hcut]
  · rw [hempty, cutBlock_refused (s := { s with inEnded := true }) hcut]

end Sys2Proof.Proofs


/-! PROOFS. The scheduler: the dispatcher hands blocks to the engines (O52) and the collector takes their results
(O51). -/

namespace Sys2Proof.Proofs

open Machine Safety Laws

/-! ### The dispatcher (R390, R398) -/

theorem unitBlkmax_eq (s : State) (g : Engine) :
    unitBlkmax s g = if s.dir = .compress then g.unp.blkmax else s.unp.blkmax := by
  cases hd : s.dir with
  | compress => rw [unitBlkmax_compress g hd, if_pos rfl]
  | decompress => rw [unitBlkmax_decompress g hd, if_neg nofun]

theorem loadUnit_read (index : Word) (w : Waiting) (m : BitVec 23) (g : Engine) (k : Nat) :
    (loadUnit index w m g).blkbuf.read k = w.bytes[k]? :=
  read_ofBytesAt 0 k w.bytes (Nat.zero_le k)

theorem loadUnit_blklen {w : Waiting} (h : w.bytes.length < 2 ^ 23) (index : Word) (m : BitVec 23) (g : Engine) :
    (loadUnit index w m g).blklen.toNat = w.bytes.length := by
  rw [loadUnit, BitVec.toNat_ofNat, Nat.mod_eq_of_lt h]

theorem loadUnit_blockFilled {w : Waiting} (h : w.bytes.length < 2 ^ 23) (index : Word) (m : BitVec 23) (g : Engine) :
    BlockFilled (loadUnit index w m g) := fun a ha => by
  rw [loadUnit_blklen h] at ha
  rw [loadUnit_read, List.getElem?_eq_getElem ha]
  rfl

section
variable {s : State} {w : Waiting} {q : List Waiting} {g : Engine} (hb : busy s = true) (hq : s.blockQ = w :: q)
  (hg : s.engines[engineOf s s.nextDispatch]? = some g)
include hb hq hg

theorem agentTurn_dispatcher_loads (hst : g.st = .idle) :
    agentTurn .dispatcher s = some (.act
      { setEngine (engineOf s s.nextDispatch) (loadUnit s.nextDispatch w (unitBlkmax s g) g) s with
        blockQ := q, nextDispatch := s.nextDispatch + 1 }) := by
  simp only [agentTurn, dispatcherTurn, hb, hq, hg, hst, if_true]

/-- The dispatcher waits for the engine whose turn it is, whatever the others do (R390). -/
theorem agentTurn_dispatcher_waits (hst : g.st ≠ .idle) : agentTurn .dispatcher s = none := by
  simp only [agentTurn, dispatcherTurn, hb, hq, hg, hst, if_true, if_false]

end

/-- Settles O52: the turn loads the unit into the engine of its index, or waits for that engine. -/
theorem dispatchesRoundRobin : Obligations.DispatchesRoundRobin := by
  intro s rest w q g hb hq hlen hg
  have hb' : busy { s with agenda := rest } = true := hb
  refine ⟨fun hst => ⟨_, loadUnit s.nextDispatch w (unitBlkmax s g) g,
    step_of_act rfl (turnFetch_of_some (agentTurn_dispatcher_loads hb' hq hg hst)), rfl, rfl, loadUnit_blklen hlen ..,
    loadUnit_blockFilled hlen _ _ g, loadUnit_read _ w _ g, rfl, ?_⟩, fun hst => ?_⟩
  · rw [← unitBlkmax_eq]; rfl
  · exact step_of_act rfl (turnFetch_of_none (agentTurn_dispatcher_waits hb' hq hg hst))

/-! ### The collector (R392, R394, R401) -/

/-- Emitting looks at the output only. -/
theorem emit_frame (bs : List Byte) (s : State) (c a : Word) (k : List Byte) (rest : List Turn) :
    emit bs { s with crc := c, adler := a, content := k, agenda := rest } =
      { emit bs s with crc := c, adler := a, content := k, agenda := rest } := by
  have hmode : streamMode { s with crc := c, adler := a, content := k, agenda := rest } = streamMode s := rfl
  rw [emit, emit, hmode]
  split <;> rfl

theorem dir_eq (s : State) : s.dir = .compress ∨ s.dir = .decompress := by
  cases s.dir
  · exact .inl rfl
  · exact .inr rfl

/-- What collecting a result does besides the accumulators and the content (R392). -/
def resultWritten (e : Nat) (g : Engine) (s : State) : State :=
  setEngine e (idleEngine g) { emit g.result.bytes s with
    regs := { s.regs with blockCount := s.regs.blockCount + 1 }, nextCollect := s.nextCollect + 1 }

theorem resultWritten_frame (e : Nat) (g : Engine) (s : State) (c a : Word) (k : List Byte) (rest : List Turn) :
    resultWritten e g { s with crc := c, adler := a, content := k, agenda := rest } = { emit g.result.bytes s with
      agenda := rest
      nextCollect := s.nextCollect + 1
      regs := { s.regs with blockCount := s.regs.blockCount + 1 }
      engines := s.engines.set e { g with st := .idle }
      crc := c, adler := a, content := k } := by
  rw [resultWritten, emit_frame]
  simp only [setEngine, idleEngine, emit_engines]

theorem collectDone_compress {s : State} (h : s.dir = .compress) (e : Nat) (g : Engine) :
    collectDone e g s = resultWritten e g s := by
  unfold collectDone
  rw [h]
  rfl

theorem collectDone_decompress {s : State} (h : s.dir = .decompress) (e : Nat) (g : Engine) :
    collectDone e g s =
      resultWritten e g { ckTake g.result.bytes s with content := s.content ++ g.result.bytes } := by
  unfold collectDone
  rw [h]
  rfl

/-- A result collected: emitted, counted, and, on decompression, accumulated and kept as content (R392, R164). -/
theorem collectDone_eq (e : Nat) (g : Engine) (s : State) (rest : List Turn) :
    collectDone e g { s with agenda := rest } = { emit g.result.bytes s with
      agenda := rest
      nextCollect := s.nextCollect + 1
      regs := { s.regs with blockCount := s.regs.blockCount + 1 }
      engines := s.engines.set e { g with st := .idle }
      crc := if s.dir = .decompress ∧ effectiveCk s = .crc32 then crcUpd s.crc g.result.bytes else s.crc
      adler := if s.dir = .decompress ∧ effectiveCk s = .adler32 then adlerUpd s.adler g.result.bytes else s.adler
      content := if s.dir = .decompress then s.content ++ g.result.bytes else s.content } := by
  obtain hd | hd := dir_eq s
  · refine (collectDone_compress (s := { s with agenda := rest }) hd e g).trans
      ((resultWritten_frame e g s s.crc s.adler s.content rest).trans ?_)
    simp only [hd, reduceCtorEq, false_and, if_false]
  · have hck : effectiveCk { s with agenda := rest } = effectiveCk s := rfl
    refine (collectDone_decompress (s := { s with agenda := rest }) hd e g).trans ?_
    rw [ckTake_eq, ckTake_crc, ckTake_adler, hck]
    refine (resultWritten_frame e g s _ _ _ rest).trans ?_
    simp only [hd, true_and, if_true]

section
variable {s : State} {rest : List Turn}

theorem agentTurn_collector_none (h : busy s = false ∨ hasUnits s = false ∨ (s.cancelReq = false ∧ s.phase = .header)) :
    agentTurn .collector s = none := by
  obtain hb | hu | ⟨hcan, hph⟩ := h
  · simp [agentTurn, collectorTurn, hb]
  · simp [agentTurn, collectorTurn, hu]
  · simp [agentTurn, collectorTurn, hcan, hph]

variable {g : Engine} (hb : busy s = true) (hu : hasUnits s = true) (hcan : s.cancelReq = false)
  (hph : s.phase ≠ .header) (hg : s.engines[engineOf s s.nextCollect]? = some g)
include hb hu hcan hph hg

/-! Past the header the collector looks at the engine of block `NEXT_COLLECT` only (R392). -/

theorem agentTurn_collector_done (hi : g.unit.index = s.nextCollect) (hst : g.st = .done) :
    agentTurn .collector s = some (.act (collectDone (engineOf s s.nextCollect) g s)) := by
  simp [agentTurn, collectorTurn, hb, hu, hcan, hph, hg, hi, hst]

theorem agentTurn_collector_failed (hi : g.unit.index = s.nextCollect) (hst : g.st = .failed) :
    agentTurn .collector s = some (.act
      (failWith g.result.errcode g.result.detail (engineOf s s.nextCollect) s.nextCollect s)) := by
  simp [agentTurn, collectorTurn, hb, hu, hcan, hph, hg, hi, hst]

theorem agentTurn_collector_waits (h : g.unit.index ≠ s.nextCollect ∨ g.st = .idle ∨ g.st = .busy) :
    agentTurn .collector s = none := by
  by_cases hi : g.unit.index = s.nextCollect
  · obtain hst | hst := h.resolve_left (absurd hi) <;>
      simp [agentTurn, collectorTurn, hb, hu, hcan, hph, hg, hi, hst]
  · simp [agentTurn, collectorTurn, hb, hu, hcan, hph, hg, hi]

end

/-- The engine of block `NEXT_COLLECT` is done, failed, or gives the collector nothing to do. -/
theorem collector_cases (i : Word) (g : Engine) :
    (g.unit.index = i ∧ g.st = .done) ∨ (g.unit.index = i ∧ g.st = .failed) ∨
      (g.unit.index ≠ i ∨ g.st = .idle ∨ g.st = .busy) := by
  cases g.st <;> simp <;> tauto

/-- Settles O51: the turn is none, or that of the engine of block `NEXT_COLLECT` by its state. -/
theorem collectsInIndexOrder : Obligations.CollectsInIndexOrder := by
  refine ⟨fun s rest h =>
    step_of_act rfl (turnFetch_of_none (agentTurn_collector_none (s := { s with agenda := rest }) h)),
    fun s rest g hb hu hcan hph hg => ?_⟩
  have hb' : busy { s with agenda := rest } = true := hb
  obtain ⟨hi, hst⟩ | ⟨hi, hst⟩ | hwait := collector_cases s.nextCollect g
  · have hdone := collectDone_eq (engineOf s s.nextCollect) g s rest
    have hturn := agentTurn_collector_done (s := { s with agenda := rest }) hb' hu hcan hph hg hi hst
    refine ⟨_, step_of_act rfl (turnFetch_of_some hturn), ?_, fun _ _ => ⟨emit g.result.bytes s, emit_emits _ s, ?_⟩,
      fun _ h => ?_, fun h => ?_⟩
    · exact congrArg State.agenda hdone
    · exact hdone
    · rw [hst] at h; cases h
    · simp [hi, hst] at h
  · have hturn := agentTurn_collector_failed (s := { s with agenda := rest }) hb' hu hcan hph hg hi hst
    refine ⟨_, step_of_act rfl (turnFetch_of_some hturn), failWith_agenda .., fun _ h => ?_,
      fun _ _ => failWith_failedWith hb' _ _ _ _, fun h => ?_⟩
    · rw [hst] at h; cases h
    · simp [hi, hst] at h
  · have hturn := agentTurn_collector_waits (s := { s with agenda := rest }) hb' hu hcan hph hg hwait
    refine ⟨_, step_of_act rfl (turnFetch_of_none hturn), rfl, fun hi hst => ?_, fun hi hst => ?_, fun _ => rfl⟩
    · simp [hi, hst] at hwait
    · simp [hi, hst] at hwait

end Sys2Proof.Proofs


/-! PROOFS. The end of a session (O55): the trailer of a compression, the tests after the last element of a
decompression, and the completion. -/

namespace Sys2Proof.Proofs

open Machine Safety Laws

/-! ### The output stream closed (R61, R80, R396) -/

theorem closedBeats_cons {bs : List Byte} (h : bs ≠ []) (b : Byte) :
    closedBeats (b :: bs) = { data := b, last := false, empty := false } :: closedBeats bs := by
  obtain ⟨as, z, rfl⟩ : ∃ as z, bs = as ++ [z] := ⟨_, _, (List.dropLast_append_getLast h).symm⟩
  simp only [closedBeats, ← List.cons_append, List.getLast?_concat, List.dropLast_concat]
  rfl

theorem closedBeats_append (as : List Byte) {bs : List Byte} (h : bs ≠ []) :
    closedBeats (as ++ bs) = openBeats as ++ closedBeats bs := by
  induction as with
  | nil => rfl
  | cons a as ih => rw [List.cons_append, closedBeats_cons (List.append_ne_nil_of_right_ne_nil as h), ih]; rfl

theorem streamBeats_eq_closedBeats (bs : List Byte) : streamBeats bs = closedBeats bs := by
  induction bs with
  | nil => rfl
  | cons b bs ih =>
    cases bs with
    | nil => rfl
    | cons c cs => rw [streamBeats, ih, closedBeats_cons (List.cons_ne_nil c cs)]; exact nofun

/-- Bytes emitted and then closed end the stream as one string does, whatever has been released before (R396, R80). -/
theorem emit_closed (bs : List Byte) (s : State) :
    ∃ o st, emit bs s = { s with outcnt := s.outcnt + BitVec.ofNat 64 bs.length, outp := o, stage := st } ∧
      o ++ closedBeats st = s.outp ++ closedBeats (s.stage ++ bs) := by
  unfold emit
  cases streamMode s with
  | false => exact ⟨_, _, rfl, rfl⟩
  | true =>
    refine ⟨_, _, rfl, ?_⟩
    rw [List.append_assoc]
    congr 1
    by_cases hne : s.stage ++ bs = []
    · simp [hne, openBeats]
    · have hlast : (s.stage ++ bs).drop ((s.stage ++ bs).length - 1) ≠ [] := by
        have hpos := List.length_pos_iff.mpr hne
        rw [ne_eq, List.drop_eq_nil_iff]
        omega
      rw [← closedBeats_append _ hlast, List.take_append_drop]

/-! ### The completion (R395, R39) -/

theorem ckFinal_eq (s : State) :
    ckFinal s =
      if effectiveCk s = .crc32 then crcFin s.crc else if effectiveCk s = .adler32 then adlerFin s.adler else 0 := by
  unfold ckFinal
  cases effectiveCk s <;> rfl

theorem completeSession_doneWith (s : State) : DoneWith [] s (completeSession s) := by
  rw [DoneWith, ← ckFinal_eq, List.append_nil, ← streamBeats_eq_closedBeats, List.length_nil, BitVec.add_zero]
  rfl

/-- The trailer bytes are part of what is closed and counted. -/
theorem completeSession_emit_doneWith {tr bs : List Byte} (s : State) (htrail : tr = bs) :
    DoneWith bs s (completeSession (emit tr s)) := by
  rw [htrail]
  obtain ⟨o, st, hemit, hclosed⟩ := emit_closed bs s
  have h := completeSession_doneWith (emit bs s)
  rw [hemit, DoneWith, List.append_nil, List.length_nil, BitVec.add_zero] at h
  rw [hemit, DoneWith, ← hclosed]
  exact h

/-! ### A compression ends (R383, R395) -/

/-- The four bytes of a word, least significant first (R65). -/
theorem le32_eq (v : Word) :
    le32 v = [v.setWidth 8, (v >>> 8).setWidth 8, (v >>> 16).setWidth 8, (v >>> 24).setWidth 8] := by
  have hbyte (k : Nat) : (v >>> k).setWidth 8 = BitVec.ofNat 8 (v.toNat / 2 ^ k) :=
    BitVec.eq_of_toNat_eq (by simp [Nat.shiftRight_eq_div_pow])
  have h0 : v.setWidth 8 = BitVec.ofNat 8 v.toNat := BitVec.eq_of_toNat_eq (by simp)
  rw [hbyte, hbyte, hbyte, h0]
  simp only [le32, leBytes, Nat.div_div_eq_div_mul]
  rfl

theorem trailerBytes_eq (s : State) :
    trailerBytes s =
      if codec s = .zlib then (le32 (adlerFin s.adler)).reverse
      else if codec s = .gzip then le32 (crcFin s.crc) ++ le32 (s.incnt.setWidth 32)
      else if codec s = .lz4 then [0, 0, 0, 0] else [] := by
  unfold trailerBytes
  cases codec s <;> rfl

section
variable {s : State} {rest : List Turn}

theorem agentTurn_sequencer_of_compress (hb : busy s = true) (hd : s.dir = .compress) :
    agentTurn .sequencer s = compressTurn s := by
  simp only [agentTurn, sequencerTurn, hb, hd, if_true]

theorem compressTurn_body (h : s.phase = .body) :
    compressTurn s =
      if s.inEnded = true ∧ s.asm = [] ∧ s.blockQ = [] ∧ s.nextCollect = s.nextCut then
        some (.act { s with phase := .trailer })
      else none := by
  simp only [compressTurn, h]

theorem compressTurn_trailer (h : s.phase = .trailer) :
    compressTurn s = some (.act (completeSession (emit (trailerBytes s) s))) := by
  simp only [compressTurn, h]

/-- A turn that a test decides is a step either way. -/
theorem step_of_ite {a : Agent} {p : Prop} [Decidable p] {t : State} (hag : s.agenda = .agent a :: rest)
    (h : agentTurn a { s with agenda := rest } = if p then some (.act t) else none) :
    step s = .next (if p then t else { s with agenda := rest }) := by
  split_ifs at h ⊢
  · exact step_of_act hag (turnFetch_of_some h)
  · exact step_of_act hag (turnFetch_of_none h)

end

/-! ### A decompression after its last element (R290, R330, R364, R395) -/

section
variable {s : State} (hcan : ¬ (s.cancelReq = true ∧ hasUnits s = false)) (hdef : s.deferred = none)
include hcan hdef

theorem decompressTurn_drain (hw : s.want = .lz4Drain) :
    decompressTurn s = if s.nextCollect = s.nextCut then some (.act (lz4Drained s)) else none := by
  simp [decompressTurn, hcan, hdef, hw]

theorem decompressTurn_trailing (hw : s.want = .trailing) : decompressTurn s = trailingTurn s := by
  simp [decompressTurn, hcan, hdef, hw]

theorem decompressTurn_declared (hw : s.want = .snpTag) (hp : s.unp.produced = s.unp.declared) :
    decompressTurn s = some (.act { s with phase := .trailer, want := .trailing }) := by
  simp [decompressTurn, hcan, hdef, hw, hp]

end

/-- The phase is no part of what a failure leaves (R440). -/
theorem failedAs_of_phase {d : Detail} {s t : State} {p : Phase} (h : FailedAs d { s with phase := p } t) :
    FailedAs d s t := h

/-- The content size is tested before the content checksum is wanted (R330). -/
theorem lz4Drained_spec (s : State) :
    if s.lz4flg.getLsbD 3 = true ∧ s.unp.declared ≠ s.outcnt then FailedAs .lz4ContentSize s (lz4Drained s)
    else lz4Drained s =
      { s with phase := .trailer, want := if s.lz4flg.getLsbD 2 = true then .lz4Content else .trailing } := by
  unfold lz4Drained
  dsimp only
  split_ifs
  · exact failedAs_of_phase (failSession_failedAs (s := { s with phase := .trailer }) rfl _)
  · rfl
  · rfl

/-- The test for bytes that follow, the completion, or the wait for the end of the input (R290, R395). -/
theorem turnFetch_trailing {s : State} (hb : busy s = true) (hc : s.nextCollect = s.nextCut)
    (h : agentTurn .sequencer s = trailingTurn s) :
    ∃ t, turnFetch (.agent .sequencer) s = .act t ∧
      if s.unp.cur.toNat < s.strm.length then FailedAs .trailingBytes s t
      else if s.inEnded = true then DoneWith [] s t
      else t = s := by
  have hremaining : 0 < remaining s ↔ s.unp.cur.toNat < s.strm.length := Nat.sub_pos_iff_lt
  simp only [trailingTurn, hremaining] at h
  split_ifs at h ⊢
  · exact ⟨_, turnFetch_of_some h, raiseSeq_failedAs hb hc _⟩
  · exact ⟨_, turnFetch_of_some h, completeSession_doneWith s⟩
  · exact ⟨_, turnFetch_of_none h, rfl⟩

/-- Settles O55: each clause is one turn of the sequencer, read off its equation. -/
theorem sessionsEndInDone : Obligations.SessionsEndInDone := by
  refine ⟨fun s rest hag hdir => ⟨fun hph => ?body, fun hph => ?trailer⟩,
    fun s rest hag hb hdir hdef hcan => ⟨fun hw hc => ?waits, fun hw hc => ?drain, fun hw hp => ?declared,
      fun hw hc => ?trailing⟩⟩
  case body =>
    have hb : busy s = true := by rw [busy, hph]; rfl
    exact step_of_ite hag ((agentTurn_sequencer_of_compress (s := { s with agenda := rest }) hb hdir).trans
      (compressTurn_body hph))
  case trailer =>
    have hb : busy s = true := by rw [busy, hph]; rfl
    refine ⟨_, step_of_act hag (turnFetch_of_some
      ((agentTurn_sequencer_of_compress (s := { s with agenda := rest }) hb hdir).trans
        (compressTurn_trailer hph))), ?_⟩
    have htrail := trailerBytes_eq s
    simp only [le32_eq] at htrail
    exact completeSession_emit_doneWith { s with agenda := rest } htrail
  all_goals
    have hturn := agentTurn_sequencer (s := { s with agenda := rest }) hb hdir
  case waits =>
    have h := hturn.trans (decompressTurn_drain hcan hdef hw)
    exact step_of_act hag (turnFetch_of_none (h.trans (if_neg hc)))
  case drain =>
    have h := hturn.trans (decompressTurn_drain hcan hdef hw)
    exact ⟨_, step_of_act hag (turnFetch_of_some (h.trans (if_pos hc))),
      lz4Drained_spec { s with agenda := rest }⟩
  case declared =>
    exact step_of_act hag (turnFetch_of_some (hturn.trans (decompressTurn_declared hcan hdef hw hp)))
  case trailing =>
    obtain ⟨t, ht, hends⟩ := turnFetch_trailing (s := { s with agenda := rest }) hb hc
      (hturn.trans (decompressTurn_trailing hcan hdef hw))
    exact ⟨t, step_of_act hag ht, hends⟩

end Sys2Proof.Proofs


/-! PROOFS. The first turn of an engine for its unit (O53): the fault, stored DEFLATE blocks, the LZ4 block checksum, a
stored LZ4 block, or the main work. -/

namespace Sys2Proof.Proofs

open Machine Safety Laws

/-! ### Numbers as whole bytes (R65, R66) -/

theorem natBits_add (j k v : Nat) : natBits (j + k) v = natBits j v ++ natBits k (v / 2 ^ j) := by
  induction j generalizing v with
  | zero => rw [Nat.zero_add, Nat.pow_zero, Nat.div_one]; rfl
  | succ j ih =>
    rw [Nat.succ_add, natBits, ih, natBits, List.cons_append, Nat.div_div_eq_div_mul, ← Nat.pow_succ']

theorem bitsOfByte_ofNat (v : Nat) : bitsOfByte (BitVec.ofNat 8 v) = natBits 8 v :=
  natBits_congr fun i hi => by rw [BitVec.toNat_ofNat, Nat.testBit_mod_two_pow, decide_eq_true hi, Bool.true_and]

theorem bitsOfBytes_leBytes (n v : Nat) : bitsOfBytes (leBytes n v) = natBits (8 * n) v := by
  induction n generalizing v with
  | zero => rfl
  | succ n ih => rw [leBytes, bitsOfBytes, ih, bitsOfByte_ofNat, Nat.mul_succ, Nat.add_comm, natBits_add]; rfl

theorem bitsOfBytes_inj {as bs : List Byte} (h : bitsOfBytes as = bitsOfBytes bs) : as = bs := by
  rw [← sourceBytes_bitsOfBytes as, h, sourceBytes_bitsOfBytes]

/-- The complement of a 16-bit length (R101). -/
theorem sub_eq_xor_of_le {n : Nat} (h : n ≤ 65535) : 65535 - n = n ^^^ 0xFFFF := by
  have hn : n % 2 ^ 16 = n := Nat.mod_eq_of_lt (Nat.lt_succ_of_le h)
  have hnot := congrArg BitVec.toNat (BitVec.xor_allOnes (x := BitVec.ofNat 16 n))
  rw [BitVec.toNat_xor, BitVec.toNat_not, BitVec.toNat_allOnes, BitVec.toNat_ofNat, hn] at hnot
  exact hnot.symm

/-! ### Writing whole bytes (R70, R71) -/

/-- The last bit of a byte clears the accumulator. -/
theorem putBit_bitacc {b : Bool} {g : Engine} (h : (putBit b g).bitcnt = 0) : (putBit b g).bitacc = 0 := by
  have h7 : g.bitcnt = 7 := by
    rw [putBit_bitcnt] at h
    bv_omega
  simp only [putBit, h7, if_true]

theorem putBitList_bitacc {bs : List Bool} {g : Engine} (hne : bs ≠ []) (h : (putBitList bs g).bitcnt = 0) :
    (putBitList bs g).bitacc = 0 := by
  induction bs generalizing g with
  | nil => exact absurd rfl hne
  | cons b bs ih =>
    cases bs with
    | nil => exact putBit_bitacc h
    | cons c cs => exact ih (List.cons_ne_nil c cs) h

theorem putBits_bitcnt (v k : Nat) (g : Engine) : (putBits v k g).bitcnt = g.bitcnt + BitVec.ofNat 3 k := by
  rw [putBits, putBitList_bitcnt, length_natBits]

theorem alignOut_of_bitcnt {g : Engine} (h : g.bitcnt ≠ 0) : alignOut g = putBits 0 (8 - g.bitcnt.toNat) g :=
  if_neg h

/-- From `g` to `h` the bits of the bytes `bs` were written, up to a byte boundary. -/
structure WroteBytes (bs : List Byte) (g h : Engine) : Prop where
  only : OnlyWrote g h
  bitcnt : h.bitcnt = 0
  bitacc : h.bitacc = 0
  bits : engineBits h = engineBits g ++ bitsOfBytes bs

theorem WroteBytes.trans {as bs : List Byte} {g h k : Engine} (a : WroteBytes as g h) (b : WroteBytes bs h k) :
    WroteBytes (as ++ bs) g k :=
  ⟨onlyWrote_trans a.only b.only, b.bitcnt, b.bitacc, by
    rw [b.bits, a.bits, bitsOfBytes_append, List.append_assoc]⟩

theorem wroteBytes_putBits {g h : Engine} {bs : List Byte} {v k : Nat} (hw : OnlyWrote g h) (hk : 0 < k)
    (hcnt : h.bitcnt + BitVec.ofNat 3 k = 0) (hbits : engineBits h ++ natBits k v = engineBits g ++ bitsOfBytes bs) :
    WroteBytes bs g (putBits v k h) := by
  have hcnt' : (putBits v k h).bitcnt = 0 := (putBits_bitcnt v k h).trans hcnt
  refine ⟨onlyWrote_trans hw (onlyWrote_putBits v k h), hcnt', ?_, (engineBits_putBits v k h).trans hbits⟩
  rw [putBits] at hcnt' ⊢
  exact putBitList_bitacc (List.ne_nil_of_length_pos (by rwa [length_natBits])) hcnt'

theorem WroteBytes.putBytes {as : List Byte} {g h : Engine} (a : WroteBytes as g h) (bs : List Byte) :
    WroteBytes (as ++ bs) g (putBytes bs h) :=
  ⟨onlyWrote_trans a.only (onlyWrote_putBytes bs h), a.bitcnt, a.bitacc, by
    rw [engineBits_putBytes a.bitcnt, a.bits, bitsOfBytes_append, List.append_assoc]⟩

/-- From one byte boundary to another `PUTBITS` does what `PUTBYTES` does. -/
theorem WroteBytes.eq_putBytes {g h : Engine} {bs : List Byte} (hg : g.bitcnt = 0) (hw : WroteBytes bs g h) :
    h = Machine.putBytes bs { g with bitacc := 0 } := by
  obtain ⟨⟨hsame, as, hbytes, hlen⟩, hcnt, hacc, hbits⟩ := hw
  rw [engineBits_aligned hcnt, engineBits_aligned hg, ← bitsOfBytes_append, hbytes] at hbits
  obtain rfl : as = bs := List.append_cancel_left (bitsOfBytes_inj hbits)
  rw [hsame, hbytes, hlen, hcnt, hacc, Machine.putBytes, hg]

/-! ### Stored blocks (R101, R242) -/

/-- A stored block written from a byte boundary: `BFINAL`, `BTYPE` 0 and the padding, `LEN`, `NLEN` and the bytes. -/
def storedBlock (final : Bool) (c : List Byte) : List Byte :=
  [if final = true then 1 else 0] ++ (leBytes 2 c.length ++ leBytes 2 (c.length ^^^ 0xFFFF) ++ c)

/-- `BFINAL`, `BTYPE` 0 and the padding make one byte. -/
theorem wroteBytes_storedHeader {g : Engine} (h : g.bitcnt = 0) (final : Bool) :
    WroteBytes [if final = true then 1 else 0] g (alignOut (putBits 0 2 (putBits (bit final) 1 g))) := by
  have hcnt : (putBits 0 2 (putBits (bit final) 1 g)).bitcnt = 3 := by
    rw [putBits_bitcnt, putBits_bitcnt, h]; rfl
  rw [alignOut_of_bitcnt (by rw [hcnt]; decide), hcnt]
  refine wroteBytes_putBits (onlyWrote_trans (onlyWrote_putBits ..) (onlyWrote_putBits ..)) (by decide) ?_ ?_
  · rw [hcnt]; rfl
  · rw [engineBits_putBits, engineBits_putBits, List.append_assoc, List.append_assoc]
    cases final <;> rfl

/-- `LEN` and `NLEN` follow at the byte boundary. -/
theorem wroteBytes_storedLen {g : Engine} {n : Nat} (h : g.bitcnt = 0) (hn : n ≤ 65535) :
    WroteBytes (leBytes 2 n ++ leBytes 2 (n ^^^ 0xFFFF)) g (putBits (65535 - n) 16 (putBits n 16 g)) := by
  refine wroteBytes_putBits (onlyWrote_putBits ..) (by decide) ?_ ?_
  · rw [putBits_bitcnt, h]; rfl
  · rw [engineBits_putBits, sub_eq_xor_of_le hn, bitsOfBytes_append, bitsOfBytes_leBytes, bitsOfBytes_leBytes,
      List.append_assoc]

theorem putStored_cons {g : Engine} {c : List Byte} (cs : List (List Byte)) (h : g.bitcnt = 0) (hc : c.length ≤ 65535) :
    putStored (c :: cs) g =
      putStored cs (putBytes (storedBlock (g.unit.isFinal && cs.isEmpty) c) { g with bitacc := 0 }) := by
  have hhead := wroteBytes_storedHeader h (g.unit.isFinal && cs.isEmpty)
  exact congrArg (putStored cs)
    ((hhead.trans ((wroteBytes_storedLen hhead.bitcnt hc).putBytes c)).eq_putBytes h)

/-- The stored blocks of a unit; only the last may be final. -/
def storedBlocks (final : Bool) : List (List Byte) → List Byte
  | [] => []
  | c :: cs => storedBlock (final && cs.isEmpty) c ++ storedBlocks final cs

theorem putStored_eq {cs : List (List Byte)} {g : Engine} (hne : cs ≠ []) (h : g.bitcnt = 0)
    (hcs : ∀ c ∈ cs, c.length ≤ 65535) :
    putStored cs g = putBytes (storedBlocks g.unit.isFinal cs) { g with bitacc := 0 } := by
  induction cs generalizing g with
  | nil => exact absurd rfl hne
  | cons c cs ih =>
    rw [putStored_cons cs h (hcs c List.mem_cons_self), storedBlocks, ← putBytes_append]
    cases cs with
    | nil => rw [storedBlocks, putBytes_nil, putStored]
    | cons d ds => exact ih (List.cons_ne_nil d ds) h fun c hc => hcs c (List.mem_cons_of_mem _ hc)

/-! ### The chunks of a stored block (R242) -/

/-- Chunk `k` of a block. -/
def storedChunk (bs : List Byte) (k : Nat) : List Byte := (bs.drop (65535 * k)).take 65535

/-- The number of chunks of a block of `n` bytes: one for an empty block. -/
def chunkCount (n : Nat) : Nat := max 1 ((n + 65534) / 65535)

theorem chunks65535_eq {fuel : Nat} {bs : List Byte} (h : bs.length ≤ 65535 * (fuel + 1)) :
    chunks65535 fuel bs = (List.range (chunkCount bs.length)).map (storedChunk bs) := by
  have hone (bs : List Byte) (hle : bs.length ≤ 65535) :
      [bs] = (List.range (chunkCount bs.length)).map (storedChunk bs) := by
    have hcount : chunkCount bs.length = 1 := by rw [chunkCount]; omega
    simp [hcount, storedChunk, List.take_of_length_le hle]
  induction fuel generalizing bs with
  | zero => exact hone bs (by omega)
  | succ fuel ih =>
    rw [chunks65535]
    split
    · next hle => exact hone bs hle
    · next hgt =>
      have hlen : (bs.drop 65535).length = bs.length - 65535 := List.length_drop ..
      have hcount : chunkCount bs.length = chunkCount (bs.length - 65535) + 1 := by simp only [chunkCount]; omega
      rw [ih (by omega), hlen, hcount, List.range_succ_eq_map, List.map_cons, List.map_map]
      refine congrArg (_ :: ·) (List.map_congr_left fun k _ => ?_)
      rw [storedChunk, List.drop_drop, Function.comp, storedChunk, Nat.mul_succ, Nat.add_comm]

theorem storedBlocks_range (final : Bool) (m : Nat) (f : Nat → List Byte) :
    storedBlocks final ((List.range m).map f) =
      (List.range m).flatMap fun k => storedBlock (final && decide (k + 1 = m)) (f k) := by
  induction m generalizing f with
  | zero => rfl
  | succ m ih =>
    rw [List.range_succ_eq_map, List.map_cons, List.map_map, storedBlocks, ih, List.flatMap_cons, List.flatMap_map]
    have hlast : ((List.range m).map (f ∘ Nat.succ)).isEmpty = decide (0 + 1 = m + 1) := by
      cases m <;> simp [List.range_succ_eq_map]
    simp only [hlast, Function.comp, Nat.succ_eq_add_one, Nat.add_right_cancel_iff]

theorem putStored_chunks {g : Engine} (h : g.bitcnt = 0) (bs : List Byte) :
    putStored (chunks65535 (bs.length / 65535) bs) g =
      putBytes ((List.range (chunkCount bs.length)).flatMap fun k =>
          storedBlock (g.unit.isFinal && decide (k + 1 = chunkCount bs.length)) (storedChunk bs k))
        { g with bitacc := 0 } := by
  have hchunks := chunks65535_eq (fuel := bs.length / 65535) (bs := bs) (by omega)
  have hpos : 0 < chunkCount bs.length := Nat.lt_of_lt_of_le Nat.one_pos (Nat.le_max_left ..)
  rw [hchunks, putStored_eq _ h, storedBlocks_range]
  · intro c hc
    obtain ⟨k, -, rfl⟩ := List.mem_map.mp hc
    exact List.length_take_le ..
  · rw [ne_eq, List.map_eq_nil_iff, List.range_eq_nil]
    exact hpos.ne'

/-! ### The first turn (R391) -/

section
variable {s : State} {g : Engine} {bs : List Byte}

theorem engineStart_faulty (hf : g.unit.index.toNat ∈ s.params.engineFault) :
    engineStart s g = some (failEngine .engineFault g) :=
  if_pos (List.contains_iff_mem.mpr hf)

variable (hf : g.unit.index.toNat ∉ s.params.engineFault)
include hf

theorem engineStart_stored (hd : s.dir = .compress) (hc : (codec s).isDeflate = true)
    (hm : treeModeOf s.scfg.cfg = 0) (hblk : BlockIs g bs) :
    engineStart s g = some (finishEngine
      (putStored (chunks65535 (bs.length / 65535) bs) { g with tokbuf := [tokenWord 2 0 0] })) := by
  simp [engineStart, hf, hd, hc, hm, blockData_of_blockIs hblk]

theorem engineStart_tokenises (hd : s.dir = .compress)
    (hc : ¬ ((codec s).isDeflate = true ∧ treeModeOf s.scfg.cfg = 0)) :
    engineStart s g = some { g with job := .tokenise } := by
  have hc' : ((codec s).isDeflate && treeModeOf s.scfg.cfg == 0) = false := by simpa using hc
  simp [engineStart, hf, hd, hc']

theorem engineStart_decompress (hd : s.dir = .decompress) (hblk : BlockIs g bs) :
    engineStart s g = some (if g.blkCk ≠ none ∧ g.blkCk ≠ some (xxh32 s.params.xxh bs) then
        failEngine .lz4BlockCk (beginBlock g)
      else if g.blkStored = true then finishEngine (engLitsOut bs (beginBlock g))
      else { beginBlock g with job := .unpack }) := by
  simp [engineStart, hf, hd, blockData_of_blockIs hblk, Option.isSome_iff_ne_none, apply_ite some]

end

theorem step_engineStart {s : State} {rest : List Turn} {e : Nat} {g h : Engine} (hm : EngineMoves s rest e g)
    (hj : g.job = .start) (hs : engineStart s g = some h) :
    step s = .next (setEngine e h { s with agenda := rest }) := by
  obtain ⟨hag, hb, hg, hst⟩ := hm
  have hb' : Machine.busy { s with agenda := rest } = true := hb
  have hs' : engineStart { s with agenda := rest } g = some h := hs
  refine step_of_act hag (turnFetch_of_some ?_)
  simp only [agentTurn, engineTurn, hg, hb', hst, hj, and_self, if_true, hs', engineAct]

/-- The result of a unit names the unit's length, index and last bit, which writing leaves. -/
theorem finishEngine_eq {g w : Engine} (hlen : w.blklen = g.blklen) (hunit : w.unit = g.unit) :
    finishEngine w = { w with st := .done, result := { w.result with
      usize := g.blklen, csize := w.outlen, index := g.unit.index, isFinal := g.unit.isFinal,
      errcode := 0, detail := 0 } } := by
  rw [finishEngine, hlen, hunit]

/-- Settles O53: the cases are those of the model's first turn; the stored blocks are put chunk by chunk from a byte
boundary, so they are whole bytes. -/
theorem enginesBeginTheirUnit : Obligations.EnginesBeginTheirUnit := by
  intro s rest e g bs hm hj hblk
  dsimp only
  by_cases hf : g.unit.index.toNat ∈ s.params.engineFault
  · refine ⟨_, _, step_engineStart hm hj (engineStart_faulty hf), rfl, ?_⟩
    rw [if_pos hf]
    exact failEngine_engineFailed ..
  simp only [if_neg hf]
  obtain hd | hd := dir_eq s
  · by_cases hc : (codec s).isDeflate = true ∧ treeModeOf s.scfg.cfg = 0
    · obtain ⟨hdefl, hmode⟩ := hc
      refine ⟨_, _, step_engineStart hm hj (engineStart_stored hf hd hdefl hmode hblk), rfl, fun _ _ _ hcnt => ?_,
        fun _ hnot => absurd ⟨hdefl, hmode⟩ hnot, fun hd' => absurd (hd.symm.trans hd') nofun⟩
      have hbits : ({ g with tokbuf := [tokenWord 2 0 0] } : Engine).bitcnt = 0 := hcnt
      rw [putStored_chunks hbits]
      refine ⟨_, finishEngine_eq (g := g) rfl rfl, ?_⟩
      simp only [storedBlock, Bool.and_eq_true, decide_eq_true_eq, List.append_assoc]
      rfl
    · exact ⟨_, _, step_engineStart hm hj (engineStart_tokenises hf hd hc), rfl,
        fun _ hdefl hmode => absurd ⟨hdefl, hmode⟩ hc, fun _ _ => rfl, fun hd' => absurd (hd.symm.trans hd') nofun⟩
  · refine ⟨_, _, step_engineStart hm hj (engineStart_decompress hf hd hblk), rfl,
      fun hd' => absurd (hd'.symm.trans hd) nofun, fun hd' => absurd (hd'.symm.trans hd) nofun, fun _ => ?_⟩
    split_ifs
    · exact failEngine_engineFailed .lz4BlockCk (beginBlock g)
    · have hlen : bs.length < 2 ^ 23 := hblk.1 ▸ g.blklen.isLt
      have hfits : 0 + bs.length < 2 ^ 64 := by omega
      obtain ⟨m, hm⟩ := engLitsOut_eq bs (beginBlock g)
      exact ⟨_, engineProduces_engLitsOut (g := beginBlock g) hfits,
        finishEngine_eq (by rw [hm]; rfl) (by rw [hm]; rfl)⟩
    · rfl

end Sys2Proof.Proofs


/-! PROOFS. Taking a failure (O31): what it leaves in a session, that it ends the session, and the tables of the codes. -/

namespace Sys2Proof.Proofs

open Machine Safety Laws

/-- A failure ends the session, or there was none (R440). -/
theorem failWith_not_busy (k : BitVec 4) (d : BitVec 8) (e : Nat) (b : Word) (s : State) :
    busy (failWith k d e b s) = false := by
  cases hb : busy s with
  | false => rw [failWith_idle hb, hb]
  | true => rw [failWith_busy hb]; rfl

/-- Only the first failure of a session is taken (R440). -/
theorem failWith_failWith (k k' : BitVec 4) (d d' : BitVec 8) (e e' : Nat) (b b' : Word) (s : State) :
    failWith k' d' e' b' (failWith k d e b s) = failWith k d e b s :=
  failWith_idle (failWith_not_busy k d e b s) k' d' e' b'

/-- Settles O31: the tables detail by detail; a failure in a session by `failWith_failedWith`, and one outside a session,
as is every failure after the first, by `failWith_idle`. -/
theorem failureEntry : Obligations.FailureEntry := by
  unfold Obligations.FailureEntry
  refine ⟨fun d => ?codes, fun s k d e b => ⟨fun hb => ?taken, fun hidle => failWith_idle hidle k d e b⟩⟩
  case codes => cases d <;> decide
  case taken =>
    exact ⟨failWith_failedWith hb k d e b, failWith_unp .., failWith_tabs .., failWith_rdQ .., failWith_lz4flg ..,
      fun k' d' e' b' => failWith_failWith k k' d d' e e' b b' s⟩

end Sys2Proof.Proofs
